-- ==== Sys2Proof/Word.lean ====
section
/-! DEFINITION. The words of the JF-4120: bytes of the link, 16-bit units and numbers, 4-bit sequences. -/

namespace Sys2Proof

/-- One byte of the link, of a message or of scratch memory. -/
abbrev Byte := BitVec 8

/-- One 16-bit number of the part: a tag, an epoch, a serial, an address, a unit of width 16. -/
abbrev Word := BitVec 16

/-- One 4-bit frame sequence number (Section 10.3: 0 to 15, and wraps). -/
abbrev SeqNum := BitVec 4

end Sys2Proof
end

