-- ==== Sys2Proof/Syntax.lean ====
section
/-! DEFINITION. The operations and events of the JF-4120: one constructor for each row of spec/opcode_table.json. -/

namespace Sys2Proof

/-- The steps of the part. A step in which the outside supplies something carries it: the window or line it is about, a
byte of RXD, the data lines, the RDY samples, the straps and first attention samples. A request or a host frame carries
nothing: its bytes stand in the Intake Queue or with the receiver already (R143, R174). -/
inductive Instr
  /-- SUBMIT: the Dispatcher takes a SUBMIT from the head of the Intake Queue (R150). -/
  | submit
  /-- CANCEL taken (R108). -/
  | cancel
  /-- FLUSH taken (R113). -/
  | flush
  /-- CONFIGURE WINDOW taken (R58). -/
  | configureWindow
  /-- CLEAR FAULT taken (R117). -/
  | clearFault
  /-- SETUP ATTENTION taken (R140, R141). -/
  | setupAttention
  /-- ACKNOWLEDGE ATTENTION taken (R139). -/
  | acknowledgeAttention
  /-- HOLD taken (R81). -/
  | hold
  /-- RESUME taken (R84). -/
  | resume
  /-- SET SHARING taken (R100). -/
  | setSharing
  /-- SET LINK taken (R158). -/
  | setLink
  /-- RESET DEVICE taken (R121). -/
  | resetDevice
  /-- QUERY DEVICE taken (R153). -/
  | queryDevice
  /-- QUERY WINDOW taken (R154). -/
  | queryWindow
  /-- QUERY TRANSACTION taken (R155). -/
  | queryTransaction
  /-- QUERY ATTENTION taken (R156). -/
  | queryAttention
  /-- QUERY LINK taken (R157). -/
  | queryLink
  /-- A message of an unknown kind, or of no bytes, taken (R149). -/
  | unknownRequest
  /-- The gathered frame is a valid DATA frame (R176). -/
  | dataFrame
  /-- The gathered frame is a valid ACK frame (R181). -/
  | ackFrame
  /-- The gathered frame is a valid NAK frame (R183). -/
  | nakFrame
  /-- The gathered frame is a valid RESYNC frame (R186). -/
  | resync
  /-- The gathered frame is a valid RESYNC-REPLY frame (R175). -/
  | hostResyncReply
  /-- The gathered frame is valid with an unknown Control byte (R175). -/
  | unknownControlFrame
  /-- The gathered frame's CRC does not agree (R175). -/
  | crcError
  /-- Over 2 ms passed inside a frame (R174). -/
  | gapError
  /-- An owed acknowledgement has waited 1 ms (R179). -/
  | ackRequested
  /-- The frame on TXD ends (R185). -/
  | frameTransmitEnd
  /-- The retransmission timer expires (R184). -/
  | retransmissionTimeout
  /-- The announce timer completes a period (R187). -/
  | announceTimer
  /-- The Link Controller takes the head report (R165). -/
  | reportTake
  /-- One report is admitted (R167). -/
  | reportAdmission
  /-- A release has lasted longer than the sharing limit (R103). -/
  | shareOverrunRaise
  /-- The Scheduler grants the engine (R69). `starts` is no when another event meets the grant and is taken before the
  granted transaction's first access begins (R82, R107, R112). -/
  | grant (starts : Bool)
  /-- The recovery time of window `w` ends (R92). -/
  | recoveryEnd (w : Fin 6)
  /-- The pin access completes (R87): `data` is on D[15:0] as the strobe ends, `rdy` the levels of RDY sampled in the
  ticks of the strobe, in order (R94). -/
  | accessCompletion (data : Word) (rdy : List Bool)
  /-- The scratch access completes (R63). -/
  | scratchAccessCompletion
  /-- The ready limit passes without RDY (R96). -/
  | readyTimeout
  /-- The park timer of window `w`'s head, parked in a POLL, expires (R76). -/
  | pollTimerExpiry (w : Fin 6)
  /-- The park timer of window `w`'s head, parked in a DELAY, expires (R77). -/
  | delayExpiry (w : Fin 6)
  /-- The wait deadline of window `w`'s head, parked in a WAIT ATTENTION, expires (R39). -/
  | waitTimeout (w : Fin 6)
  /-- Attention input `line` is sampled at `level` after another level (R128). -/
  | attentionInputChange (line : Fin 8) (level : Bool)
  /-- The pending change of `line` has held for the filter time (R128). -/
  | changeRecognised (line : Fin 8)
  /-- BREQ is sampled asserted (R101). -/
  | breqAsserted
  /-- BREQ is sampled deasserted (R102). -/
  | breqDeasserted
  /-- Power is applied (R122). -/
  | powerOnReset
  /-- RST is asserted (R122). -/
  | pinReset
  /-- The part leaves the holding state of a reset (R122) and samples the straps BAUD1, BAUD0 and ATN7..ATN0. -/
  | resetRelease (baud : BitVec 2) (atn : BitVec 8)
  /-- One byte received on RXD (R174). -/
  | byteReceived (b : Byte)
  /-- Two ticks after a release, BGNT asserts (R101). -/
  | bgntAssertion
deriving DecidableEq, Repr

end Sys2Proof
end

