-- ==== Sys2Proof/Decode.lean ====
section
/-! DEFINITION. The host's table words. No row of spec/opcode_table.json gives bits, so no word spells a command; the
messages and frames of Chapter 11 are read in Machine/Operands.lean and Machine/Link.lean. -/

namespace Sys2Proof

/-- The command that the `nbits`-bit word `w` spells by the table's bits: none, as every row of the table has no bits. -/
def decodeTableWord (_nbits _w : Nat) : Option Instr := none

end Sys2Proof
end

