-- ==== Sys2Proof/Config.lean ====
section
/-! DEFINITION. What one JF-4120 fixes: its codes, its capacities, its time bases, and the values the manual leaves open. -/

namespace Sys2Proof.Config

/-- The part code of ANNOUNCE and QUERY DEVICE (R153, R188). -/
def partCode : Word := 0x4120#16

/-- The revision code of the parts the manual describes (R190). -/
def revision : Byte := 0x01#8

/-- Records of the Transaction Pool (R10). -/
def poolRecords : Nat := 48

/-- Entries of the Report Queue (R164). -/
def reportEntries : Nat := 32

/-- Messages of the Intake Queue (R143). -/
def intakeEntries : Nat := 8

/-- Frames of the replay buffer, the send window (R182, R188). -/
def sendWindow : Nat := 4

/-- Windows (R48). -/
def windows : Nat := 6

/-- Bytes of scratch memory (Section 3.4). -/
def scratchBytes : Nat := 512

/-- Accesses of one slice (R73). -/
def sliceLimit : Nat := 16

/-- Largest result data of one transaction, in bytes (R7, R27). -/
def resultLimit : Nat := 192

/-- The epoch reach above which a barrier SUBMIT finds the pool full (R22). -/
def barrierReach : Nat := 94

/-- Non-attention admissions in a row after which an eligible line is preferred (R168). -/
def starvationLimit : Nat := 4

/-- Expiries without acknowledgement progress at which the link stalls (R184). -/
def retryLimit : Nat := 8

/-- Ticks of BCLK in 1 µs: BCLK is nominally 40 MHz and the time bases derive from it. DEDUCED, log entry 4. -/
def ticksPerUs : Nat := 40

/-- A time of `n` µs in ticks. -/
def us (n : Nat) : Nat := n * ticksPerUs

/-- A time of `n` ms in ticks. -/
def ms (n : Nat) : Nat := n * 1000 * ticksPerUs

/-- The link rate that the straps BAUD1 and BAUD0 select, in baud (the table of R173). -/
def baudRate (straps : BitVec 2) : Nat :=
  if straps = 0#2 then 115200 else if straps = 1#2 then 460800 else if straps = 2#2 then 1000000 else 3000000

/-- FREE VALUE: whether the n-th scratch write that a reset abandons had already replaced its unit. R64 allows both and
states neither. Log entry 15. -/
opaque abandonedWriteTaken : Nat → Bool

/-- FREE VALUE: the level of D[15:0] that the weak hold finds where something other than the part drove the lines last and no
rule states what: after a release (R102), after a read that timed out (R96) and after a read that a reset abandoned (R120). Log
entry 18. -/
opaque heldData : Nat → Word

end Sys2Proof.Config
end

