-- ==== Sys2Proof/Machine/State.lean ====
section
/-! DEFINITION. The state of the JF-4120, block by block as the Functional Overview lists them, and its state after reset. -/

namespace Sys2Proof.Machine

/-! ## Windows (Chapter 3) -/

/-- Where a window's accesses go (Table 3–3). -/
inductive Target
  | pins
  | scratch
deriving DecidableEq, Repr

/-- Unit size of a window (Table 3–3). -/
inductive Width
  | w8
  | w16
deriving DecidableEq, Repr

/-- How a pin access presents its address (R53). -/
inductive AddressMode
  | direct
  | single
  | double
deriving DecidableEq, Repr

/-- Active level of a pin (Table 3–3). -/
inductive Polarity
  | lowActive
  | highActive
deriving DecidableEq, Repr

/-- How the end of the strobe is found (R56): NONE or WAIT. -/
inductive ReadyMode
  | noWait
  | wait
deriving DecidableEq, Repr

/-- The profile of a window (Table 3–3). -/
structure Profile where
  target : Target
  width : Width
  addressBits : Nat
  addressMode : AddressMode
  elide : Bool
  csPolarity : Polarity
  strobePolarity : Polarity
  advPolarity : Polarity
  readyPolarity : Polarity
  addressPhase : Nat
  setup : Nat
  strobe : Nat
  hold : Nat
  recovery : Nat
  readyMode : ReadyMode
  readyLimit : Nat
  queueLimit : Nat
  softStop : Bool
deriving DecidableEq, Repr

/-- The default value of every field (Table 3–3). -/
def Profile.default : Profile where
  target := .pins
  width := .w8
  addressBits := 8
  addressMode := .direct
  elide := false
  csPolarity := .lowActive
  strobePolarity := .lowActive
  advPolarity := .lowActive
  readyPolarity := .lowActive
  addressPhase := 2
  setup := 1
  strobe := 4
  hold := 1
  recovery := 2
  readyMode := .noWait
  readyLimit := 255
  queueLimit := 8
  softStop := false

/-- Window states (Table 3–1). -/
inductive WindowState
  | disabled
  | enabled
  | faulted
deriving DecidableEq, Repr

/-! ## Transactions (Chapters 1 and 2) -/

/-- The class of a transaction (R3). -/
inductive TxClass
  | normal
  | urgent
deriving DecidableEq, Repr

/-- Transaction states (Table 1–1). -/
inductive TxState
  | queued
  | running
  | parked
  | ready
  | completing
deriving DecidableEq, Repr

/-- The condition of a SCAN (R35). -/
inductive ScanCond
  | eq
  | ne
  | le
  | ge
deriving DecidableEq, Repr

/-- An operation record (Table 2–1). The count of a WRITE BLOCK is the number of its values. -/
inductive Op
  | write (addr value : Word)
  | writeBlock (addr : Word) (incr : Bool) (values : List Word)
  | read (addr : Word) (count : Nat) (incr : Bool)
  | modify (addr andMask orMask : Word) (returnOld : Bool)
  | poll (addr mask want : Word) (interval attempts : Nat)
  | scan (addr : Word) (count : Nat) (incr : Bool) (key mask : Word) (cond : ScanCond) (requireHit : Bool)
  | waitAttention (line : Fin 8) (timeout : Nat)
  | delay (interval : Nat)
deriving DecidableEq, Repr

/-- Failure reasons (Table 2–2). -/
inductive FailReason
  | readyTimeout
  | pollExhausted
  | notFound
  | waitTimeout
  | lineOff
deriving DecidableEq, Repr

/-- Causes of CANCELLED (R8); an abort request carries one of the first two (R105). -/
inductive CancelCause
  | byCancel
  | byFlush
  | byFaultDiscard
deriving DecidableEq, Repr

/-- Outcomes of a transaction (R8). -/
inductive TxOutcome
  | done
  | failed (reason : FailReason)
  | cancelled (cause : CancelCause)
deriving DecidableEq, Repr

/-- What a PARKED record waits for (R6); deadlines are moments of the model's clock. -/
inductive Wake
  | timer (deadline : Nat)
  | attention (line : Fin 8) (deadline : Option Nat)
deriving DecidableEq, Repr

/-- A transaction record (Table 1–1, R105). `abort` is the abort-requested field and its cause in one: absent is "no". -/
structure Record where
  tag : Word
  window : Fin 6
  cls : TxClass
  barrier : Bool
  epoch : Word
  ops : List Op
  state : TxState
  abort : Option CancelCause
  opIndex : Nat
  unitIndex : Nat
  attempts : Nat
  wake : Option Wake
  data : List Byte
  outcome : Option TxOutcome
  opsCompleted : Nat
  failIndex : Option Nat
  detail : Nat
  acceptedCount : Word
deriving DecidableEq, Repr

/-- A window entry (R48): state, profile and the queue of bus-side records, head first (R13). A bus-side record stands in
its window's queue and nowhere else; a COMPLETING record stands on the Completion Backlog and nowhere else. -/
structure Window where
  state : WindowState
  profile : Profile
  queue : List Record
deriving DecidableEq, Repr

/-! ## Scheduler (Table 4–1) -/

/-- The Scheduler's state. The grant names the window whose head is RUNNING (R14); the park timers are the deadlines of the
wake conditions (R75). `delayEnds` holds for each window the deadline at which its last DELAY ended, from which a grant keeps the spacing
of R40: the model's own field, log entry 34. -/
structure Scheduler where
  grant : Option (Fin 6)
  pointer : Fin 6
  slice : Nat
  hold : Bool
  delayEnds : Vector (Option Nat) 6
deriving DecidableEq, Repr

/-! ## Bus Engine (Table 5–1) -/

/-- Read or write. -/
inductive AccessKind
  | read
  | write
deriving DecidableEq, Repr

/-- The access in progress. `start` is the tick in which its first phase begins; the write of a MODIFY that waits for recovery
has its start ahead of the clock. The phase it has reached follows from the start and the clock (Table 5–2). -/
structure Access where
  window : Fin 6
  kind : AccessKind
  addr : Word
  value : Word
  elided : Bool
  start : Nat
deriving DecidableEq, Repr

/-- Bus ownership (R86). -/
inductive Ownership
  | owned
  | released
deriving DecidableEq, Repr

/-- The release record (Table 5–1): the moment ownership became RELEASED, the moment BGNT asserted (the start of the release),
the displaced window, and whether an overrun has been raised. -/
structure Release where
  at_ : Nat
  start : Option Nat
  displaced : Option (Fin 6)
  overrun : Bool
deriving DecidableEq, Repr

/-- The level an output pin has: driven high or low, or at high impedance. -/
inductive Level
  | low
  | high
  | floating
deriving DecidableEq, Repr

/-- The peripheral-bus outputs and BGNT in one tick. For A, none is high impedance; for each half of D, none is released. The
weak hold circuit keeps released lines of D at a level, or is removed (R90, R101). -/
structure Pins where
  cs : Vector Level 6
  rds : Level
  wrs : Level
  adv0 : Level
  adv1 : Level
  a : Option Word
  dLow : Option Byte
  dHigh : Option Byte
  weakHold : Option Word
  bgnt : Bool
deriving DecidableEq, Repr

/-- The Bus Engine's state (Table 5–1), with what its pins hold between accesses (R88, R90, R91) and the unit last accessed in
this grant, which decides elision (R97). -/
structure BusEngine where
  access : Option Access
  ownership : Ownership
  recovery : Vector (Option Nat) 6
  shareEnable : Bool
  shareLimit : Nat
  release : Option Release
  scratch : List Host.Cell
  prevUnit : Option (Nat × Nat)
  aHeld : Word
  dHeld : Word
  strobePolarity : Polarity
  advPolarity : Polarity
  resetPins : Option (Nat × Pins)
deriving DecidableEq, Repr

/-! ## Attention Monitor (Table 7–1) -/

/-- Line modes (Table 7–1). -/
inductive LineMode
  | off
  | levelHigh
  | levelLow
  | rise
  | fall
  | both
deriving DecidableEq, Repr

/-- Direction of a recognised change (R129). -/
inductive Edge
  | rise
  | fall
deriving DecidableEq, Repr

/-- An attention line entry (Table 7–1). The pending change holds the new level and the moment of its first sample. -/
structure Line where
  mode : LineMode
  priority : Nat
  filter : Nat
  report : Bool
  level : Bool
  count : Nat
  lost : Bool
  lastEdge : Edge
  stamp : Option Nat
  outstanding : Bool
  waiters : List Word
  pendingChange : Option (Bool × Nat)
deriving DecidableEq, Repr

/-! ## Dispatcher (Table 8–1) -/

/-- Result codes, in the order of Table 8–2. -/
inductive ResultCode
  | accepted
  | held
  | badFormat
  | badTag
  | badWindow
  | windowDisabled
  | windowFaulted
  | badOperation
  | badValue
  | badLine
  | addrRange
  | resultTooLarge
  | dupTag
  | poolFull
  | queueFull
  | busy
  | unknownTag
  | tooLate
  | notFaulted
  | notHeld
  | notOutstanding
deriving DecidableEq, Repr

/-- A reply (R148); the body stands in the bytes of Table 11–7. -/
structure Reply where
  kind : Byte
  count : Word
  code : ResultCode
  body : List Byte
deriving DecidableEq, Repr

/-- The Dispatcher: the request count, the pending-reply slot, and in HOLD WAIT the count of the HOLD that waits. -/
structure Dispatcher where
  count : Word
  slot : Option Reply
  holdWait : Option Word
deriving DecidableEq, Repr

/-! ## Reporter (Table 9–1) -/

/-- The content of a report (Table 9–2); a COMPLETION carries the fields of R161 as its record holds them. -/
inductive ReportContent
  | reply (r : Reply)
  | completion (tag : Word) (window : Fin 6) (acceptedCount : Word) (outcome : Option TxOutcome) (opsCompleted : Nat)
      (failIndex : Option Nat) (detail : Nat) (data : List Byte)
  | attention (line : Fin 8) (count : Nat) (lost : Bool) (level : Bool) (lastEdge : Edge)
  | shareOverrun (limit : Nat) (window : Option (Fin 6)) (count : Nat)
deriving DecidableEq, Repr

/-- An admitted report with its serial (R163). -/
structure Report where
  serial : Word
  content : ReportContent
deriving DecidableEq, Repr

/-- A pending share-overrun notice (R162). -/
structure Overrun where
  limit : Nat
  window : Option (Fin 6)
  count : Nat
deriving DecidableEq, Repr

/-- The Reporter's state (Table 9–1). -/
structure Reporter where
  queue : List Report
  backlog : List Record
  serial : Word
  starvation : Nat
  overrun : Option Overrun
deriving DecidableEq, Repr

/-! ## Link Controller (Table 10–1) -/

/-- Link states (Table 10–3). -/
inductive LinkState
  | start
  | up
  | stalled
deriving DecidableEq, Repr

/-- The reset cause that ANNOUNCE reports (R172). -/
inductive ResetCause
  | none
  | power
  | pin
  | soft
deriving DecidableEq, Repr

/-- How far the first transmission of a frame of the replay buffer has come (R182, R183). -/
inductive Sent
  | notBegun
  | begun
  | ended
deriving DecidableEq, Repr

/-- A frame of the replay buffer (Table 10–1). -/
structure ReplayFrame where
  seq : SeqNum
  report : Report
  sent : Sent
deriving DecidableEq, Repr

/-- The acknowledgement owed to the host (R179). -/
inductive AckOwed
  | none
  | since (t : Nat)
  | requested
deriving DecidableEq, Repr

/-- The NAK state (R180, Table 10–1): what damaged frames have made due for the current expected sequence. -/
inductive NakState
  | clear
  | due
  | sent
deriving DecidableEq, Repr

/-- The receiver (R174): hunting, or inside a frame with the bytes gathered after the sync byte and the moment at which the
last byte ended. -/
inductive Receiver
  | hunting
  | inside (bytes : List Byte) (since : Nat)
deriving DecidableEq, Repr

/-- The seven link counters (R189). -/
structure Counters where
  crc : Nat
  gap : Nat
  duplicate : Nat
  outOfOrder : Nat
  intakeFull : Nat
  retransmission : Nat
  resync : Nat
deriving DecidableEq, Repr

/-- What a frame in transmission on TXD is. A DATA frame names its report's serial, or none when a resync has renumbered the
replay buffer under it (R186). -/
inductive TxKind
  | resyncReply
  | resync
  | nak
  | ack
  | data (serial : Option Word)
deriving DecidableEq, Repr

/-- The frame in transmission on TXD: what it is, its bytes from sync to CRC, and the moment it began (R185). -/
structure TxFrame where
  kind : TxKind
  bytes : List Byte
  begun : Nat
deriving DecidableEq, Repr

/-- The Link Controller's state (Table 10–1), with the transmitter, the frames due, the gathered frame that awaits its check
(R174, R175) and the sampled straps (R173). `nakOutOfOrder` says that an out-of-order frame has made a NAK due that is sent whatever
the NAK state (R178, R180). -/
structure Link where
  state : LinkState
  cause : ResetCause
  rxExpected : SeqNum
  txNext : SeqNum
  replay : List ReplayFrame
  resendPoint : Option SeqNum
  intake : List (List Byte)
  ackOwed : AckOwed
  nak : NakState
  nakOutOfOrder : Bool
  timer : Option Nat
  timeout : Nat
  retry : Nat
  announce : Option Nat
  receiver : Receiver
  gathered : Option (List Byte)
  counters : Counters
  resyncReplyDue : Bool
  resyncDue : Bool
  tx : Option TxFrame
  baud : BitVec 2
deriving DecidableEq, Repr

/-! ## The whole part -/

/-- The state of the part, block by block. `epoch` is the Pool's epoch counter (R20); the pool's records stand in the window
queues and on the backlog. `breq` is the level of BREQ last sampled, as asserted or not; `holding` is the holding state of a
power-on or pin reset (R122). The model's own: `now`, its clock in ticks of BCLK (log entries 2, 3); `freed`, the counter of free
values drawn (log entry 15); `pending`, the commands that wait. -/
structure State where
  win : Vector Window 6
  epoch : Word
  sch : Scheduler
  bus : BusEngine
  atn : Vector Line 8
  dsp : Dispatcher
  rpt : Reporter
  lnk : Link
  breq : Bool
  holding : Bool
  now : Nat
  freed : Nat
  pending : List Instr
deriving DecidableEq, Repr

/-- Why a step of the part stops with a fault. -/
inductive Fault
  /-- A scratch access whose unit lies outside the 512 bytes of Section 3.4. Raised by SCRATCH_ACCESS_COMPLETION alone; the
  checks of R58, R59 and R150 keep every accepted transaction from it. Safe: the model stops where the manual gives no
  memory. Log entry 25. -/
  | scratchOutside
deriving DecidableEq, Repr

/-- Why a command has no meaning. -/
inductive Refusal
  /-- No meaning has been given to the row of this mnemonic. Raised by Dispatch's refused arms alone. Safe. -/
  | notModelled (mnemonic : String)
deriving DecidableEq, Repr

/-! ## Reset values -/

/-- A window after reset (R50). -/
def Window.reset : Window := { state := .disabled, profile := Profile.default, queue := [] }

/-- The Scheduler after reset (R65). -/
def Scheduler.reset : Scheduler := {
  grant := none, pointer := 5, slice := 0, hold := false, delayEnds := Vector.replicate 6 none }

/-- The Bus Engine after reset (R86, R91), with the given scratch memory (R64). -/
def BusEngine.reset (scratch : List Host.Cell) : BusEngine where
  access := none
  ownership := .owned
  recovery := Vector.replicate 6 none
  shareEnable := false
  shareLimit := 0
  release := none
  scratch := scratch
  prevUnit := none
  aHeld := 0#16
  dHeld := 0#16
  strobePolarity := .lowActive
  advPolarity := .lowActive
  resetPins := none

/-- An attention line after reset (Table 7–1), with the level of its first sample. -/
def Line.reset (level : Bool) : Line where
  mode := .off
  priority := 0
  filter := 0
  report := false
  level := level
  count := 0
  lost := false
  lastEdge := .rise
  stamp := none
  outstanding := false
  waiters := []
  pendingChange := none

/-- The Dispatcher after reset (R145, R146). -/
def Dispatcher.reset : Dispatcher := { count := 0#16, slot := none, holdWait := none }

/-- The Reporter after reset (R159). -/
def Reporter.reset : Reporter := { queue := [], backlog := [], serial := 0#16, starvation := 0, overrun := none }

/-- Every link counter 0 (R189). -/
def Counters.zero : Counters :=
  { crc := 0, gap := 0, duplicate := 0, outOfOrder := 0, intakeFull := 0, retransmission := 0, resync := 0 }

/-- The Link Controller after a reset of the given cause (R172), at the rate in force. -/
def Link.reset (cause : ResetCause) (baud : BitVec 2) : Link where
  state := .start
  cause := cause
  rxExpected := 0#4
  txNext := 0#4
  replay := []
  resendPoint := none
  intake := []
  ackOwed := .none
  nak := .clear
  nakOutOfOrder := false
  timer := none
  timeout := 20
  retry := 0
  announce := none
  receiver := .hunting
  gathered := none
  counters := Counters.zero
  resyncReplyDue := false
  resyncDue := false
  tx := none
  baud := baud

/-- The machine right after a power-on reset, in the holding state of R122: RESET_RELEASE leaves it. The levels of the
inputs not sampled yet, the straps and the clock are DESIGN CHOICE (log entries 5 and 6). -/
def State.reset : State where
  win := Vector.replicate 6 Window.reset
  epoch := 0#16
  sch := Scheduler.reset
  bus := BusEngine.reset []
  atn := Vector.replicate 8 (Line.reset false)
  dsp := Dispatcher.reset
  rpt := Reporter.reset
  lnk := Link.reset .power 0#2
  breq := false
  holding := true
  now := 0
  freed := 0
  pending := []

end Sys2Proof.Machine
end

