-- ==== Sys2Proof/Machine/Ops.lean ====
section
/-! DEFINITION. The shared operations over the state: windows and their queues, the clock, scratch memory, the ends of a
transaction, the forming of a reply, and the bytes of 16-bit fields. -/

namespace Sys2Proof.Machine

/-! ## Bytes -/

/-- A number in one byte. -/
def byteOf (n : Nat) : Byte := BitVec.ofNat 8 n

/-- A yes/no field: 0 no, 1 yes (Table 11–4). -/
def flagByte (b : Bool) : Byte := if b then 1#8 else 0#8

/-- A 16-bit field, least significant byte first (Conventions, Numbers and units). -/
def wordBytes (x : Word) : List Byte := [x.setWidth 8, (x >>> 8).setWidth 8]

/-- A number in a 16-bit field. -/
def natBytes (n : Nat) : List Byte := wordBytes (BitVec.ofNat 16 n)

/-- The 16-bit field whose low byte is `lo` and high byte `hi`. -/
def wordOf (lo hi : Byte) : Word := hi ++ lo

/-! ## Windows, lines and queues -/

/-- W0 to W5. -/
def allWindows : List (Fin 6) := [0, 1, 2, 3, 4, 5]

/-- ATN0 to ATN7. -/
def allLines : List (Fin 8) := [0, 1, 2, 3, 4, 5, 6, 7]

/-- The entry of window `w` (R48). -/
def State.window (s : State) (w : Fin 6) : Window := s.win[w]

/-- Replace the entry of window `w`. -/
def State.setWindow (s : State) (w : Fin 6) (x : Window) : State := { s with win := s.win.set w.val x w.isLt }

/-- The entry of attention line `l` (Table 7–1). -/
def State.line (s : State) (l : Fin 8) : Line := s.atn[l]

/-- Replace the entry of line `l`. -/
def State.setLine (s : State) (l : Fin 8) (x : Line) : State := { s with atn := s.atn.set l.val x l.isLt }

/-- The queue of window `w`, head first (R13). -/
def State.queue (s : State) (w : Fin 6) : List Record := (s.window w).queue

/-- Replace the queue of window `w`. -/
def State.setQueue (s : State) (w : Fin 6) (q : List Record) : State :=
  s.setWindow w { s.window w with queue := q }

/-- The head of window `w` (R14). -/
def State.head (s : State) (w : Fin 6) : Option Record := (s.queue w).head?

/-- Replace the head of window `w`; a window without a head stays as it is. -/
def State.setHead (s : State) (w : Fin 6) (r : Record) : State :=
  match s.queue w with
  | [] => s
  | _ :: rest => s.setQueue w (r :: rest)

/-- The bus-side records of the part, window by window. -/
def State.busSide (s : State) : List Record := allWindows.flatMap s.queue

/-- Every live record: bus-side, or COMPLETING on the backlog. -/
def State.live (s : State) : List Record := s.busSide ++ s.rpt.backlog

/-- The free records of the pool, which QUERY DEVICE reports (R153). -/
def State.freeRecords (s : State) : Nat := Config.poolRecords - s.live.length

/-! ## The clock -/

/-- The clock stands at `t` or later: a step that the manual takes no earlier than `t` has been taken. Log entry 3. -/
def State.reach (s : State) (t : Nat) : State := { s with now := max s.now t }

/-! ## Scratch memory (Section 3.4)

Cells in rising order of address, none of them 0: a byte that is not listed reads 0, its value after power-on (R64). -/

/-- One byte of scratch memory. -/
def scratchRead : List Host.Cell → Nat → Byte
  | [], _ => 0#8
  | (k, v) :: m, a => if k = a then v else scratchRead m a

/-- Write one byte of scratch memory. -/
def scratchWrite : List Host.Cell → Nat → Byte → List Host.Cell
  | [], a, b => if b = 0#8 then [] else [(a, b)]
  | (k, v) :: m, a, b =>
    if a < k then (if b = 0#8 then (k, v) :: m else (a, b) :: (k, v) :: m)
    else if a = k then (if b = 0#8 then m else (a, b) :: m)
    else (k, v) :: scratchWrite m a b

/-- The addresses of `m` rise strictly, each above `lo`. -/
def scratchRising (lo : Nat) : List Host.Cell → Bool
  | [] => true
  | (k, _) :: m => decide (lo ≤ k) && scratchRising (k + 1) m

/-- The canonical form of scratch memory: rising addresses within the 512 bytes, no cell equal to the value of an unlisted one. -/
def scratchWf (m : List Host.Cell) : Bool :=
  scratchRising 0 m && m.all fun c => decide (c.1 < Config.scratchBytes) && decide (c.2 ≠ 0#8)

/-- The first byte of the unit at a window address (R62). -/
def scratchByte (width : Width) (addr : Word) : Nat :=
  match width with
  | .w8 => addr.toNat
  | .w16 => 2 * addr.toNat

/-- The number of bytes of a unit (R52). -/
def Width.bytes : Width → Nat
  | .w8 => 1
  | .w16 => 2

/-- A unit's whole place is within the 512 bytes. -/
def scratchInside (width : Width) (addr : Word) : Bool :=
  scratchByte width addr + width.bytes ≤ Config.scratchBytes

/-- Read one unit (R62): at width 16 the low byte stands first. -/
def scratchReadUnit (m : List Host.Cell) (width : Width) (addr : Word) : Word :=
  match width with
  | .w8 => (scratchRead m addr.toNat).setWidth 16
  | .w16 => wordOf (scratchRead m (2 * addr.toNat)) (scratchRead m (2 * addr.toNat + 1))

/-- Replace one unit (R62, R63). -/
def scratchWriteUnit (m : List Host.Cell) (width : Width) (addr value : Word) : List Host.Cell :=
  match width with
  | .w8 => scratchWrite m addr.toNat (value.setWidth 8)
  | .w16 =>
    scratchWrite (scratchWrite m (2 * addr.toNat) (value.setWidth 8)) (2 * addr.toNat + 1) ((value >>> 8).setWidth 8)

/-! ## Records and the ends of a transaction (R8) -/

/-- The operation that progress names. -/
def Record.op? (r : Record) : Option Op := r.ops[r.opIndex]?

/-- The operation has ended without failure: the index rises, unit and attempts return to 0 (R24). -/
def Record.advance (r : Record) : Record := { r with opIndex := r.opIndex + 1, unitIndex := 0, attempts := 0 }

/-- No operation is left: the one that ended was the last (R24). -/
def Record.finished (r : Record) : Bool := r.ops.length ≤ r.opIndex

/-- A record enters COMPLETING with its outcome and the three fields fixed with it (R8). -/
def Record.complete (r : Record) (o : TxOutcome) (opsCompleted : Nat) (failIndex : Option Nat) (detail : Nat) : Record :=
  { r with
    state := .completing
    wake := none
    outcome := some o
    opsCompleted := opsCompleted
    failIndex := failIndex
    detail := detail }

/-- The record ends DONE (R42). -/
def Record.endDone (r : Record) : Record := r.complete .done r.ops.length none 0

/-- The record ends FAILED at the operation that progress names (R43). -/
def Record.endFailed (r : Record) (reason : FailReason) (detail : Nat) : Record :=
  r.complete (.failed reason) r.opIndex (some r.opIndex) detail

/-- The record ends CANCELLED (R8, R106). -/
def Record.endCancelled (r : Record) (cause : CancelCause) : Record :=
  r.complete (.cancelled cause) r.opIndex none 0

/-- Append bytes to the result data (R7). -/
def Record.append (r : Record) (bytes : List Byte) : Record := { r with data := r.data ++ bytes }

/-- One unit in the order of result data: one byte at width 8, low byte first at width 16 (R30). -/
def unitBytes (width : Width) (v : Word) : List Byte :=
  match width with
  | .w8 => [v.setWidth 8]
  | .w16 => wordBytes v

/-- Records join the tail of the Completion Backlog in the order given (R166). -/
def State.joinBacklog (s : State) (rs : List Record) : State := { s with rpt.backlog := s.rpt.backlog ++ rs }

/-- The grant ends when its transaction leaves RUNNING (R70). -/
def State.dropGrant (s : State) (w : Fin 6) : State :=
  if s.sch.grant = some w then { s with sch.grant := none } else s

/-- The head of window `w` leaves its queue as the COMPLETING record `r` (R15, R166), and its grant ends. -/
def State.retireHead (s : State) (w : Fin 6) (r : Record) : State :=
  ((s.setQueue w (s.queue w).tail).joinBacklog [r]).dropGrant w

/-- A failure of this reason is hard (Table 2–2). -/
def FailReason.hard : FailReason → Bool
  | .readyTimeout => true
  | .pollExhausted | .notFound | .waitTimeout | .lineOff => false

/-- The head of window `w` ends FAILED, and the window faults where the reason makes it (R43, R44, R51). -/
def State.failHead (s : State) (w : Fin 6) (r : Record) (reason : FailReason) (detail : Nat) : State :=
  let t := s.retireHead w (r.endFailed reason detail)
  if reason.hard || (s.window w).profile.softStop then t.setWindow w { t.window w with state := .faulted } else t

/-- A tag leaves the waiter list of line `l`; the tags behind it keep their order (R132, R135). -/
def State.removeWaiter (s : State) (l : Fin 8) (tag : Word) : State :=
  s.setLine l { s.line l with waiters := (s.line l).waiters.filter (· ≠ tag) }

/-- A record's wake condition is removed by something other than its own event: an ATTENTION condition takes its tag off the
line's waiter list, a TIMER condition's timer is gone with it (R6, R110). -/
def State.dropWake (s : State) (r : Record) : State :=
  match r.wake with
  | some (.attention l _) => s.removeWaiter l r.tag
  | some (.timer _) | none => s

/-! ## Replies (R148) -/

/-- The Dispatcher forms the reply of request count `count` into its pending-reply slot (R146). -/
def State.formReply (s : State) (count : Word) (kind : Byte) (code : ResultCode) (body : List Byte) : State :=
  { s with dsp.slot := some { kind := kind, count := count, code := code, body := body } }

/-- The reply to the request just taken, whose count is the request count (R145). -/
def State.reply (s : State) (kind : Byte) (code : ResultCode) (body : List Byte) : State :=
  s.formReply s.dsp.count kind code body

end Sys2Proof.Machine
end

