-- ==== Sys2Proof/Machine/Operands.lean ====
section
/-! DEFINITION. The operands: the fields of request messages (Section 11.2), the operation records (Section 11.3), the profile
bytes, and the unit an access of an operation addresses (R25). -/

namespace Sys2Proof.Machine

/-! ## Fields of a message -/

/-- A request message, byte 0 its kind code. -/
abbrev Message := List Byte

/-- The byte at an offset of a message. -/
def byteAt (m : Message) (i : Nat) : Byte := m.getD i 0#8

/-- The 16-bit field at an offset of a message, little-endian. -/
def wordAt (m : Message) (i : Nat) : Word := wordOf (byteAt m i) (byteAt m (i + 1))

/-- The kind code at the start of a message; a message of no bytes has kind code 0 (R149). -/
def kindOf (m : Message) : Byte := byteAt m 0

/-- A window field: 0 to 5, else none (BAD_WINDOW). -/
def windowOf (b : Byte) : Option (Fin 6) := if h : b.toNat < 6 then some ⟨b.toNat, h⟩ else none

/-- A line field: 0 to 7, else none (BAD_LINE). -/
def lineOf (b : Byte) : Option (Fin 8) := if h : b.toNat < 8 then some ⟨b.toNat, h⟩ else none

/-- A yes/no field: 0 no, 1 yes, any other byte none (R191). -/
def yesNo (b : Byte) : Option Bool := if b = 0#8 then some false else if b = 1#8 then some true else none

/-- A flag inside an operation record: 0 no, every other value yes (R191). -/
def opFlag (b : Byte) : Bool := decide (b ≠ 0#8)

/-- A value that the condition admits. -/
def within (lo hi : Nat) (n : Nat) : Option Nat := if lo ≤ n ∧ n ≤ hi then some n else none

/-- The class field (Table 11–4). -/
def classOf (b : Byte) : Option TxClass :=
  if b = 0#8 then some .normal else if b = 1#8 then some .urgent else none

/-- The mode field of CLEAR FAULT: RESUME is no discard, DISCARD is (Table 11–4). -/
def discardOf (b : Byte) : Option Bool := yesNo b

/-- The line mode field (Table 11–4). -/
def lineModeOf (b : Byte) : Option LineMode :=
  if b = 0#8 then some .off
  else if b = 1#8 then some .levelHigh
  else if b = 2#8 then some .levelLow
  else if b = 3#8 then some .rise
  else if b = 4#8 then some .fall
  else if b = 5#8 then some .both
  else none

/-- The byte of a line mode (Table 11–4). -/
def LineMode.byte : LineMode → Byte
  | .off => 0#8
  | .levelHigh => 1#8
  | .levelLow => 2#8
  | .rise => 3#8
  | .fall => 4#8
  | .both => 5#8

/-- The byte of a window state (Table 11–4). -/
def WindowState.byte : WindowState → Byte
  | .disabled => 0#8
  | .enabled => 1#8
  | .faulted => 2#8

/-- The byte of a transaction state; 0 stands for absent (Table 11–4). -/
def TxState.byte : TxState → Byte
  | .queued => 1#8
  | .running => 2#8
  | .parked => 3#8
  | .ready => 4#8
  | .completing => 5#8

/-- The byte of a last edge (Table 11–4). -/
def Edge.byte : Edge → Byte
  | .rise => 0#8
  | .fall => 1#8

/-! ## Profile bytes (Tables 3–3, 11–3, 11–4) -/

/-- The target field. -/
def targetOf (b : Byte) : Option Target := if b = 0#8 then some .pins else if b = 1#8 then some .scratch else none

/-- The width field: 8 or 16, the number itself. -/
def widthOf (b : Byte) : Option Width := if b = 8#8 then some .w8 else if b = 16#8 then some .w16 else none

/-- The address mode field. -/
def addressModeOf (b : Byte) : Option AddressMode :=
  if b = 0#8 then some .direct else if b = 1#8 then some .single else if b = 2#8 then some .double else none

/-- A polarity field. -/
def polarityOf (b : Byte) : Option Polarity :=
  if b = 0#8 then some .lowActive else if b = 1#8 then some .highActive else none

/-- The ready mode field. -/
def readyModeOf (b : Byte) : Option ReadyMode := if b = 0#8 then some .noWait else if b = 1#8 then some .wait else none

/-- The profile that the 19 profile bytes of a message give, in CONFIGURE WINDOW order from offset `o`, when every field lies in
its range of Table 3–3 (check 3 of R58). -/
def profileAt (m : Message) (o : Nat) : Option Profile := do
  let target ← targetOf (byteAt m o)
  let width ← widthOf (byteAt m (o + 1))
  let addressBits ← within 1 16 (byteAt m (o + 2)).toNat
  let addressMode ← addressModeOf (byteAt m (o + 3))
  let elide ← yesNo (byteAt m (o + 4))
  let csPolarity ← polarityOf (byteAt m (o + 5))
  let strobePolarity ← polarityOf (byteAt m (o + 6))
  let advPolarity ← polarityOf (byteAt m (o + 7))
  let readyPolarity ← polarityOf (byteAt m (o + 8))
  let addressPhase ← within 1 15 (byteAt m (o + 9)).toNat
  let setup ← within 0 15 (byteAt m (o + 10)).toNat
  let strobe ← within 1 63 (byteAt m (o + 11)).toNat
  let hold ← within 0 15 (byteAt m (o + 12)).toNat
  let recovery ← within 0 63 (byteAt m (o + 13)).toNat
  let readyMode ← readyModeOf (byteAt m (o + 14))
  let readyLimit ← within 1 1023 (wordAt m (o + 15)).toNat
  let queueLimit ← within 1 16 (byteAt m (o + 17)).toNat
  let softStop ← yesNo (byteAt m (o + 18))
  some {
    target := target, width := width, addressBits := addressBits, addressMode := addressMode, elide := elide,
    csPolarity := csPolarity, strobePolarity := strobePolarity, advPolarity := advPolarity, readyPolarity := readyPolarity,
    addressPhase := addressPhase, setup := setup, strobe := strobe, hold := hold, recovery := recovery,
    readyMode := readyMode, readyLimit := readyLimit, queueLimit := queueLimit, softStop := softStop }

/-- The byte of a polarity. -/
def Polarity.byte : Polarity → Byte
  | .lowActive => 0#8
  | .highActive => 1#8

/-- The byte of a target. -/
def Target.byte : Target → Byte
  | .pins => 0#8
  | .scratch => 1#8

/-- The byte of a width. -/
def Width.byte : Width → Byte
  | .w8 => 8#8
  | .w16 => 16#8

/-- The byte of an address mode. -/
def AddressMode.byte : AddressMode → Byte
  | .direct => 0#8
  | .single => 1#8
  | .double => 2#8

/-- The byte of a ready mode. -/
def ReadyMode.byte : ReadyMode → Byte
  | .noWait => 0#8
  | .wait => 1#8

/-- The 19 profile bytes in CONFIGURE WINDOW order (R154, Table 11–7). -/
def Profile.bytes (p : Profile) : List Byte :=
  [p.target.byte, p.width.byte, byteOf p.addressBits, p.addressMode.byte, flagByte p.elide, p.csPolarity.byte,
    p.strobePolarity.byte, p.advPolarity.byte, p.readyPolarity.byte, byteOf p.addressPhase, byteOf p.setup,
    byteOf p.strobe, byteOf p.hold, byteOf p.recovery, p.readyMode.byte]
  ++ natBytes p.readyLimit ++ [byteOf p.queueLimit, flagByte p.softStop]

/-- Every field of the profile lies in its range of Table 3–3. -/
def Profile.inRange (p : Profile) : Bool :=
  decide (1 ≤ p.addressBits ∧ p.addressBits ≤ 16 ∧ 1 ≤ p.addressPhase ∧ p.addressPhase ≤ 15 ∧ p.setup ≤ 15 ∧
    1 ≤ p.strobe ∧ p.strobe ≤ 63 ∧ p.hold ≤ 15 ∧ p.recovery ≤ 63 ∧ 1 ≤ p.readyLimit ∧ p.readyLimit ≤ 1023 ∧
    1 ≤ p.queueLimit ∧ p.queueLimit ≤ 16)

/-- The combinations that R59 refuses are absent. -/
def Profile.legal (p : Profile) : Bool :=
  match p.target, p.width with
  | .pins, .w8 => !(decide (p.addressMode = .single) && decide (8 < p.addressBits))
  | .pins, .w16 => true
  | .scratch, .w8 => decide (p.addressBits ≤ 9)
  | .scratch, .w16 => decide (p.addressBits ≤ 8)

/-! ## Operation records (Table 11–5, R192) -/

/-- The first `n` 16-bit values of a byte list, with the bytes after them; none when the list is too short. -/
def takeWords : Nat → List Byte → Option (List Word × List Byte)
  | 0, bs => some ([], bs)
  | n + 1, lo :: hi :: bs =>
    match takeWords n bs with
    | some (ws, rest) => some (wordOf lo hi :: ws, rest)
    | none => none
  | _ + 1, _ => none

/-- The condition field of a SCAN. -/
def scanCondOf (b : Byte) : Option ScanCond :=
  if b = 0#8 then some .eq else if b = 1#8 then some .ne else if b = 2#8 then some .le else if b = 3#8 then some .ge else none

/-- WRITE: address, value. -/
def parseWrite : List Byte → Option (Op × List Byte)
  | a0 :: a1 :: v0 :: v1 :: rest => some (.write (wordOf a0 a1) (wordOf v0 v1), rest)
  | _ => none

/-- WRITE BLOCK: address, count 1 to 32, increment, count values. -/
def parseWriteBlock : List Byte → Option (Op × List Byte)
  | a0 :: a1 :: n :: inc :: bs => do
    let count ← within 1 32 n.toNat
    let (values, rest) ← takeWords count bs
    some (.writeBlock (wordOf a0 a1) (opFlag inc) values, rest)
  | _ => none

/-- READ: address, count 1 to 64, increment. -/
def parseRead : List Byte → Option (Op × List Byte)
  | a0 :: a1 :: n :: inc :: rest => do
    let count ← within 1 64 n.toNat
    some (.read (wordOf a0 a1) count (opFlag inc), rest)
  | _ => none

/-- MODIFY: address, and-mask, or-mask, return-old. -/
def parseModify : List Byte → Option (Op × List Byte)
  | a0 :: a1 :: n0 :: n1 :: o0 :: o1 :: ret :: rest =>
    some (.modify (wordOf a0 a1) (wordOf n0 n1) (wordOf o0 o1) (opFlag ret), rest)
  | _ => none

/-- POLL: address, mask, match, interval 1 to 65535, attempts 1 to 65535. -/
def parsePoll : List Byte → Option (Op × List Byte)
  | a0 :: a1 :: k0 :: k1 :: w0 :: w1 :: i0 :: i1 :: t0 :: t1 :: rest => do
    let interval ← within 1 65535 (wordOf i0 i1).toNat
    let attempts ← within 1 65535 (wordOf t0 t1).toNat
    some (.poll (wordOf a0 a1) (wordOf k0 k1) (wordOf w0 w1) interval attempts, rest)
  | _ => none

/-- SCAN: address, count 1 to 255, increment, key, mask, condition, require-hit. -/
def parseScan : List Byte → Option (Op × List Byte)
  | a0 :: a1 :: n :: inc :: k0 :: k1 :: m0 :: m1 :: c :: req :: rest => do
    let count ← within 1 255 n.toNat
    let cond ← scanCondOf c
    some (.scan (wordOf a0 a1) count (opFlag inc) (wordOf k0 k1) (wordOf m0 m1) cond (opFlag req), rest)
  | _ => none

/-- WAIT ATTENTION: line 0 to 7, timeout. -/
def parseWait : List Byte → Option (Op × List Byte)
  | l :: t0 :: t1 :: rest => do
    let line ← lineOf l
    some (.waitAttention line (wordOf t0 t1).toNat, rest)
  | _ => none

/-- DELAY: interval 1 to 65535. -/
def parseDelay : List Byte → Option (Op × List Byte)
  | i0 :: i1 :: rest => do
    let interval ← within 1 65535 (wordOf i0 i1).toNat
    some (.delay interval, rest)
  | _ => none

/-- One operation record and the bytes after it, by its opcode (Table 11–5); none is a fault of R27's first row. -/
def parseOp : List Byte → Option (Op × List Byte)
  | [] => none
  | opcode :: bs =>
    if opcode = 0x01#8 then parseWrite bs
    else if opcode = 0x02#8 then parseWriteBlock bs
    else if opcode = 0x03#8 then parseRead bs
    else if opcode = 0x04#8 then parseModify bs
    else if opcode = 0x05#8 then parsePoll bs
    else if opcode = 0x06#8 then parseScan bs
    else if opcode = 0x07#8 then parseWait bs
    else if opcode = 0x08#8 then parseDelay bs
    else none

/-- As many operation records as the count gives, filling the bytes exactly (R192). -/
def parseOps : Nat → List Byte → Option (List Op)
  | 0, bs => if bs = [] then some [] else none
  | n + 1, bs => do
    let (op, rest) ← parseOp bs
    let ops ← parseOps n rest
    some (op :: ops)

/-- The bytes of an operation record as Table 11–5 lays them out. -/
def Op.bytes : Op → List Byte
  | .write a v => [0x01#8] ++ wordBytes a ++ wordBytes v
  | .writeBlock a inc vs => [0x02#8] ++ wordBytes a ++ [byteOf vs.length, flagByte inc] ++ vs.flatMap wordBytes
  | .read a n inc => [0x03#8] ++ wordBytes a ++ [byteOf n, flagByte inc]
  | .modify a k o ret => [0x04#8] ++ wordBytes a ++ wordBytes k ++ wordBytes o ++ [flagByte ret]
  | .poll a k w i t => [0x05#8] ++ wordBytes a ++ wordBytes k ++ wordBytes w ++ natBytes i ++ natBytes t
  | .scan a n inc key mask c req =>
    [0x06#8] ++ wordBytes a ++ [byteOf n, flagByte inc] ++ wordBytes key ++ wordBytes mask
      ++ [match c with | .eq => 0#8 | .ne => 1#8 | .le => 2#8 | .ge => 3#8, flagByte req]
  | .waitAttention l t => [0x07#8, byteOf l.val] ++ natBytes t
  | .delay i => [0x08#8] ++ natBytes i

/-- The counts, attempts and intervals of an operation record lie in their ranges (R27, Table 2–1). -/
def Op.inRange : Op → Bool
  | .write _ _ | .modify _ _ _ _ => true
  | .writeBlock _ _ vs => decide (1 ≤ vs.length ∧ vs.length ≤ 32)
  | .read _ n _ => decide (1 ≤ n ∧ n ≤ 64)
  | .poll _ _ _ i t => decide (1 ≤ i ∧ i ≤ 65535 ∧ 1 ≤ t ∧ t ≤ 65535)
  | .scan _ n _ _ _ _ _ => decide (1 ≤ n ∧ n ≤ 255)
  | .waitAttention _ t => decide (t ≤ 65535)
  | .delay i => decide (1 ≤ i ∧ i ≤ 65535)

/-! ## What an operation addresses (R25, R27) -/

/-- The values, masks, match and key of an operation, whose high bytes are 0 at width 8 (R27). -/
def Op.values : Op → List Word
  | .write _ v => [v]
  | .writeBlock _ _ vs => vs
  | .modify _ k o _ => [k, o]
  | .poll _ k w _ _ => [k, w]
  | .scan _ _ _ key mask _ _ => [key, mask]
  | .read _ _ _ | .waitAttention _ _ | .delay _ => []

/-- Every value, mask, match and key fits the width (R27's BAD_VALUE row). -/
def Op.fitsWidth (width : Width) (op : Op) : Bool :=
  match width with
  | .w8 => op.values.all fun v => decide (v.toNat < 256)
  | .w16 => true

/-- The last address an operation could reach, or none when it makes no access (R27's ADDR_RANGE row). -/
def Op.lastAddress : Op → Option Nat
  | .write a _ | .modify a _ _ _ | .poll a _ _ _ _ => some a.toNat
  | .writeBlock a inc vs => some (if inc then a.toNat + vs.length - 1 else a.toNat)
  | .read a n inc | .scan a n inc _ _ _ _ => some (if inc then a.toNat + n - 1 else a.toNat)
  | .waitAttention _ _ | .delay _ => none

/-- The addresses of an operation fit the window's address bits. -/
def Op.fitsAddress (bits : Nat) (op : Op) : Bool :=
  match op.lastAddress with
  | some a => decide (a < 2 ^ bits)
  | none => true

/-- What an operation could append to the result data, in bytes (R27). -/
def Op.resultSize (width : Width) : Op → Nat
  | .read _ n _ => n * width.bytes
  | .modify _ _ _ true => width.bytes
  | .scan _ _ _ _ _ _ _ => 2
  | .write _ _ | .writeBlock _ _ _ | .modify _ _ _ false | .poll _ _ _ _ _ | .waitAttention _ _ | .delay _ => 0

/-- The total result size of an operation list (R27). -/
def resultSize (width : Width) (ops : List Op) : Nat := (ops.map (Op.resultSize width)).sum

/-- The address of unit `i`: the operation's address, plus `i` when it increments (R25). -/
def unitAddress (addr : Word) (incr : Bool) (i : Nat) : Word := if incr then addr + BitVec.ofNat 16 i else addr

/-- The access an operation makes next at unit index `i`: read or write, the unit's address, and the value written (Table 2–1).
A MODIFY's next access at a boundary is its read (R31). WAIT ATTENTION and DELAY make none. -/
def Op.access? (op : Op) (i : Nat) : Option (AccessKind × Word × Word) :=
  match op with
  | .write a v => some (.write, a, v)
  | .writeBlock a inc vs => some (.write, unitAddress a inc i, vs.getD i 0#16)
  | .read a _ inc => some (.read, unitAddress a inc i, 0#16)
  | .modify a _ _ _ => some (.read, a, 0#16)
  | .poll a _ _ _ _ => some (.read, a, 0#16)
  | .scan a _ inc _ _ _ _ => some (.read, unitAddress a inc i, 0#16)
  | .waitAttention _ _ | .delay _ => none

/-- The operation is an incrementing WRITE BLOCK, READ or SCAN, the only ones whose accesses may be elided (R97). -/
def Op.increments : Op → Bool
  | .writeBlock _ inc _ | .read _ _ inc | .scan _ _ inc _ _ _ _ => inc
  | .write _ _ | .modify _ _ _ _ | .poll _ _ _ _ _ | .waitAttention _ _ | .delay _ => false

/-- A unit as the window's width moves it (R25): one byte at width 8. -/
def maskUnit (width : Width) (v : Word) : Word :=
  match width with
  | .w8 => v &&& 0x00FF#16
  | .w16 => v

/-- The SCAN condition over the masked value and the key, as unsigned numbers (R35). -/
def ScanCond.holds (c : ScanCond) (v key : Word) : Bool :=
  match c with
  | .eq => v = key
  | .ne => v ≠ key
  | .le => v ≤ key
  | .ge => key ≤ v

end Sys2Proof.Machine
end

