-- ==== Sys2Proof/Machine/Flags.lean ====
section
/-! DEFINITION. The conditions the part computes from its state: epoch order, candidates and preference groups, idle and usable,
recovery, the strobe's end, eligible lines, and the conditions of the Dispatcher, the arbiter and the Link Controller. -/

namespace Sys2Proof.Machine

/-! ## Epochs (Section 1.4) -/

/-- Epoch `a` is smaller than epoch `b`: `b - a` modulo 65536 lies in 1 to 32767 (R22). -/
def epochLess (a b : Word) : Bool := decide (1 ≤ (b - a).toNat ∧ (b - a).toNat ≤ 32767)

/-- The epoch reach: the largest counter minus epoch, modulo 65536, over the bus-side records; 0 when there is none (R22). -/
def State.epochReach (s : State) : Nat := (s.busSide.map fun r => (s.epoch - r.epoch).toNat).foldl max 0

/-- The start condition of a record: no bus-side record has a smaller epoch (R67). -/
def State.startCondition (s : State) (r : Record) : Bool := s.busSide.all fun q => !epochLess q.epoch r.epoch

/-! ## The Scheduler (Chapter 4) -/

/-- The preference group of window `w`'s head when it is a candidate (R66, Table 4–2). -/
def State.group (s : State) (w : Fin 6) : Option Nat :=
  match s.head w with
  | none => none
  | some r =>
    match r.state with
    | .ready => some (if r.cls = .urgent then 1 else 3)
    | .queued =>
      if (s.window w).state = .enabled && s.startCondition r then some (if r.cls = .urgent then 2 else 4) else none
    | .running | .parked | .completing => none

/-- At least one candidate exists. -/
def State.anyCandidate (s : State) : Bool := allWindows.any fun w => (s.group w).isSome

/-- The windows in cyclic order from the one after `p` (R68). -/
def cyclicFrom (p : Fin 6) : List (Fin 6) := [p + 1, p + 2, p + 3, p + 4, p + 5, p]

/-- The Scheduler's choice: the lowest group that holds a candidate, searched from the window after the pointer (R68). -/
def State.choice (s : State) : Option (Fin 6) :=
  [1, 2, 3, 4].findSome? fun g => (cyclicFrom s.sch.pointer).find? fun w => decide (s.group w = some g)

/-- The Bus Engine is idle: the grant is none (Section 4.1). -/
def State.engineIdle (s : State) : Bool := decide (s.sch.grant = none)

/-- The bus is usable: the hold flag is clear and the engine owns the bus (Section 4.1). -/
def State.usable (s : State) : Bool := !s.sch.hold && decide (s.bus.ownership = .owned)

/-- The RUNNING transaction: the head of the granted window (R14, R69). -/
def State.running (s : State) : Option (Fin 6 × Record) :=
  match s.sch.grant with
  | none => none
  | some w =>
    match s.head w with
    | some r => if r.state = .running then some (w, r) else none
    | none => none

/-! ## The Bus Engine (Chapter 5) -/

/-- The moment at which window `w`'s recovery time ends: none where its timer is clear or its target is SCRATCH, at which recovery
places no constraint (R55, R92). A timer keeps its start when it has run past the recovery value, and a longer value that a CONFIGURE
WINDOW gives counts from that start (R60). Log entry 33. -/
def State.recoveryEnds (s : State) (w : Fin 6) : Option Nat :=
  match (s.window w).profile.target with
  | .pins => s.bus.recovery[w].map fun t => t + (s.window w).profile.recovery
  | .scratch => none

/-- Window `w` is a pin target still within its recovery time (R55, R92). -/
def State.recovering (s : State) (w : Fin 6) : Bool :=
  match s.recoveryEnds w with
  | none => false
  | some t => decide (s.now < t)

/-- The moment before which window `w` is not granted: where a DELAY has ended since its recovery timer first started, the DELAY's
deadline and the recovery time after it, which spaces the accesses before and after the DELAY as R40 says, by the grant that R40 lets be
slow to come. The timer itself is left alone (R92), and at a SCRATCH target recovery places no constraint (R55). Log entry 34. -/
def State.spacedFrom (s : State) (w : Fin 6) : Nat :=
  match s.recoveryEnds w, s.sch.delayEnds[w] with
  | some _, some d => d + (s.window w).profile.recovery
  | _, _ => 0

/-- The external master has requested the bus with sharing enabled (R41, R101). -/
def State.requested (s : State) : Bool := s.bus.shareEnable && s.breq

/-- RDY at this level counts as asserted under the window's ready polarity (R54, R94). -/
def rdyAsserted (p : Polarity) (level : Bool) : Bool :=
  match p with
  | .lowActive => !level
  | .highActive => level

/-- The extension tick, counted from `k`, in which RDY is first sampled asserted; `left` ticks of the ready limit remain. -/
def extension (p : Polarity) : List Bool → Nat → Nat → Option Nat
  | [], _, _ => none
  | level :: more, k, left =>
    if rdyAsserted p level then some k
    else match left with
      | 0 => none
      | n + 1 => extension p more (k + 1) n

/-- The length of a strobe that ends with ready given (R94, R95): the strobe width in mode NONE; in mode WAIT the strobe width
plus the extension ticks up to the one in which RDY is sampled asserted. Only samples from the last tick of the strobe width
count. None when these samples end no strobe within the ready limit. -/
def strobeTicks (p : Profile) (rdy : List Bool) : Option Nat :=
  match p.readyMode with
  | .noWait => some p.strobe
  | .wait => (extension p.readyPolarity (rdy.drop (p.strobe - 1)) 0 p.readyLimit).map (p.strobe + ·)

/-- The length of a strobe of which these RDY samples are known: where they end it, its length; else, as far as is known, its longest,
after which the access has timed out (R94, R96). -/
def strobeLength (p : Profile) (rdy : List Bool) : Nat := (strobeTicks p rdy).getD (p.strobe + p.readyLimit)

/-- The ticks of the address phases of an access (Table 5–2). -/
def addressTicks (p : Profile) (elided : Bool) : Nat :=
  if elided then 0
  else match p.addressMode with
    | .direct => 0
    | .single => p.addressPhase
    | .double => 2 * p.addressPhase

/-- The ticks of an access with a strobe of the given length (Table 5–2). -/
def accessTicks (p : Profile) (elided : Bool) (strobe : Nat) : Nat :=
  addressTicks p elided + p.setup + strobe + p.hold

/-- The access of unit `i` of operation `k` may omit its address phase (R97): the window elides, the operation increments, and
the access just before it in this grant was the previous unit of the same operation. -/
def elides (p : Profile) (op : Op) (k i : Nat) (prev : Option (Nat × Nat)) : Bool :=
  decide (p.target = .pins) && decide (p.addressMode ≠ .direct) && p.elide && op.increments && decide (0 < i)
    && decide (prev = some (k, i - 1))

/-! ## Attention lines (Chapter 7) -/

/-- A level line is active (R131). -/
def Line.active (l : Line) : Bool :=
  match l.mode with
  | .levelHigh => l.level
  | .levelLow => !l.level
  | .off | .rise | .fall | .both => false

/-- The level of the line's input: the pending change's new level, or the filtered level when none is pending (R128).
Log entry 20. -/
def Line.input (l : Line) : Bool :=
  match l.pendingChange with
  | some (level, _) => level
  | none => l.level

/-- The moment at which the line's pending change has held for the filter time (R128). -/
def Line.changeMoment (x : Line) : Nat :=
  match x.pendingChange with
  | none => 0
  | some (_, since) => since + Config.us x.filter

/-- The line's pending change is recognised before anything at the moment `t` (R128): with filter 0, whose change is recognised in the
tick of its first sample, and when the last moment for it, 1 µs after the filter time, lies before `t`. -/
def Line.changeDue (x : Line) (t : Nat) : Bool :=
  match x.pendingChange with
  | none => false
  | some (_, since) => decide (x.filter = 0) || decide (since + Config.us (x.filter + 1) < t)

/-- The best of the lines that pass a test, as a comparison has it; of equals the first. -/
def pickLine (passes : Fin 8 → Bool) (better : Fin 8 → Fin 8 → Bool) : Option (Fin 8) :=
  (allLines.filter passes).foldl
    (fun best l => match best with
      | none => some l
      | some b => if better l b then some l else some b) none

/-- The line whose pending change is due before the moment `t`: of several the one whose filter time was over first. -/
def State.dueLine (s : State) (t : Nat) : Option (Fin 8) :=
  pickLine (fun l => (s.line l).changeDue t) fun a b => decide ((s.line a).changeMoment < (s.line b).changeMoment)

/-- BREQ was sampled deasserted in the tick in which BGNT asserted: the release ends there (R101, R102). -/
def State.releaseOver (s : State) : Bool :=
  match s.bus.release with
  | none => false
  | some r => r.start.isSome && !s.breq

/-- The line is eligible for a notice (R136). -/
def Line.eligible (l : Line) : Bool := decide (0 < l.count) && l.report && !l.outstanding && decide (l.waiters = [])

/-- At least one line is eligible. -/
def State.anyEligible (s : State) : Bool := allLines.any fun l => (s.line l).eligible

/-- The number of lines that hold an age stamp (R127). -/
def State.stamps (s : State) : Nat := (allLines.filter fun l => (s.line l).stamp.isSome).length

/-- The better of two eligible lines for a notice: higher priority, then smaller stamp (R137). -/
def betterLine (s : State) (a b : Fin 8) : Bool :=
  decide ((s.line b).priority < (s.line a).priority) ||
    (decide ((s.line a).priority = (s.line b).priority) &&
      decide ((s.line a).stamp.getD 0 < (s.line b).stamp.getD 0))

/-- The line whose notice is admitted (R137): the eligible line of highest priority, and among equals the smallest stamp. -/
def State.bestLine (s : State) : Option (Fin 8) := pickLine (fun l => (s.line l).eligible) (betterLine s)

/-! ## The Dispatcher, the arbiter and the Link Controller -/

/-- The Dispatcher is IDLE (Table 8–1). -/
def State.dispatcherIdle (s : State) : Bool := decide (s.dsp.slot = none) && decide (s.dsp.holdWait = none)

/-- The Dispatcher takes the head of the Intake Queue (R144). -/
def State.canTake (s : State) : Bool := s.dispatcherIdle && decide (s.lnk.intake ≠ [])

/-- At least one source of Table 9–3 waits. -/
def State.sourceWaits (s : State) : Bool :=
  s.dsp.slot.isSome || decide (s.rpt.backlog ≠ []) || s.rpt.overrun.isSome || s.anyEligible

/-- The Report Queue has a free entry (R164). -/
def State.entryFree (s : State) : Bool := decide (s.rpt.queue.length < Config.reportEntries)

/-- An admission takes place (R167). -/
def State.canAdmit (s : State) : Bool := s.entryFree && s.sourceWaits

/-- The Link Controller takes the head report (R165). -/
def State.canReport (s : State) : Bool :=
  decide (s.lnk.state = .up) && decide (s.rpt.queue ≠ []) && decide (s.lnk.replay.length < Config.sendWindow)

end Sys2Proof.Machine
end

