-- ==== Sys2Proof/Machine/Attention.lean ====
section
/-! DEFINITION. The Attention Monitor (Chapter 7): age stamps, event counts, delivery to waiters, recognition of a change, the
effects of a notice, an acknowledgement and a setup on a line. -/

namespace Sys2Proof.Machine

/-! ## Age stamps (R127) -/

/-- Line `l` takes the newest stamp: one more than the number of stamps held. -/
def State.giveStamp (s : State) (l : Fin 8) : State :=
  s.setLine l { s.line l with stamp := some (s.stamps + 1) }

/-- A stamp larger than `n` is lowered by one. -/
def lowerStamp (n : Nat) (x : Line) : Line :=
  match x.stamp with
  | some m => if n < m then { x with stamp := some (m - 1) } else x
  | none => x

/-- Line `l` gives up its stamp, and every larger stamp is lowered by one. -/
def State.dropStamp (s : State) (l : Fin 8) : State :=
  match (s.line l).stamp with
  | none => s
  | some n =>
    let t := s.setLine l { s.line l with stamp := none }
    { t with atn := t.atn.map (lowerStamp n) }

/-! ## Event counts (R130, R131) -/

/-- One event is recorded on line `l` (R130): the count rises below 255, and from 0 with the newest stamp; at 255 the event is
lost and the flag says so. -/
def State.recordEvent (s : State) (l : Fin 8) : State :=
  if (s.line l).count = 0 then
    let t := s.giveStamp l
    t.setLine l { t.line l with count := 1 }
  else if (s.line l).count < 255 then s.setLine l { s.line l with count := (s.line l).count + 1 }
  else s.setLine l { s.line l with lost := true }

/-- An active level line whose count is 0 records an event at once (R131). -/
def State.rearm (s : State) (l : Fin 8) : State :=
  if (s.line l).active && decide ((s.line l).count = 0) then s.recordEvent l else s

/-- The count of line `l` becomes `n` by a consumption, an admission or a setup: at 0 the stamp goes, and an active level line
records a new event as the newest line (R127, R131). -/
def State.lowerCount (s : State) (l : Fin 8) (n : Nat) : State :=
  let t := s.setLine l { s.line l with count := n }
  if n = 0 then (t.dropStamp l).rearm l else t

/-! ## Delivery (R38, R134) -/

/-- The window whose head carries the tag and waits on line `l`: PARKED there, or RUNNING in the event of its registration. -/
def State.waiterWindow (s : State) (l : Fin 8) (tag : Word) : Option (Fin 6) :=
  allWindows.find? fun w =>
    match s.head w with
    | none => false
    | some r =>
      decide (r.tag = tag) &&
        (decide (r.state = .running) ||
          (decide (r.state = .parked) && match r.wake with
            | some (.attention k _) => decide (k = l)
            | some (.timer _) | none => false))

/-- The transaction is given its event and its WAIT ATTENTION ends (R38): a PARKED record becomes READY, or COMPLETING DONE when
no operation is left; a RUNNING one stays RUNNING for its settlement to go on (R37). -/
def State.wakeWaiter (s : State) (l : Fin 8) (tag : Word) : State :=
  match s.waiterWindow l tag with
  | none => s
  | some w =>
    match s.head w with
    | none => s
    | some r =>
      if r.state = .running then s.setHead w r.advance
      else if r.advance.finished then s.retireHead w r.advance.endDone
      else s.setHead w { r.advance with state := .ready, wake := none }

/-- One event of line `l` is delivered to its oldest waiter (R134). -/
def State.deliver (s : State) (l : Fin 8) (tag : Word) (rest : List Word) : State :=
  ((s.setLine l { s.line l with waiters := rest }).lowerCount l ((s.line l).count - 1)).wakeWaiter l tag

/-- Delivery is repeated while the count is above 0 and a waiter is left (R134), at most `n` times. -/
def State.routeUpTo (l : Fin 8) : Nat → State → State
  | 0, s => s
  | n + 1, s =>
    match (s.line l).waiters with
    | [] => s
    | tag :: rest => if 0 < (s.line l).count then State.routeUpTo l n (s.deliver l tag rest) else s

/-- The routing of line `l` (R134): each delivery takes one waiter off the list. -/
def State.route (s : State) (l : Fin 8) : State := State.routeUpTo l (s.line l).waiters.length s

/-- A transaction's tag joins the tail of the waiter list, and routing is applied (R133). -/
def State.register (s : State) (l : Fin 8) (tag : Word) : State :=
  (s.setLine l { s.line l with waiters := (s.line l).waiters ++ [tag] }).route l

/-! ## Filtering and recognition (R128, R129) -/

/-- A sample of line `l`'s input at `level`: at another level than the filtered one a pending change begins, unless one is
under way; at the filtered level a pending change ends (R128). -/
def State.sampleInput (s : State) (l : Fin 8) (level : Bool) : State :=
  let x := s.line l
  if level = x.level then s.setLine l { x with pendingChange := none }
  else match x.pendingChange with
    | some _ => s
    | none => s.setLine l { x with pendingChange := some (level, s.now) }

/-- The line's mode counts this recognised change (R130). -/
def LineMode.counts : LineMode → Bool → Bool
  | .rise, level => level
  | .fall, level => !level
  | .both, _ => true
  | .off, _ | .levelHigh, _ | .levelLow, _ => false

/-- The filtered level takes the new level; outside mode OFF the last edge takes the direction (R128, R129). -/
def Line.recognise (x : Line) (level : Bool) : Line :=
  { x with
    level := level
    pendingChange := none
    lastEdge := if x.mode = .off then x.lastEdge else if level then .rise else .fall }

/-- A change of line `l` to `level` is recognised (R128 to R131), and the routing follows (R130, R134). -/
def State.recognise (s : State) (l : Fin 8) (level : Bool) : State :=
  let t := s.setLine l ((s.line l).recognise level)
  if (s.line l).mode.counts level then (t.recordEvent l).route l else (t.rearm l).route l

/-- The pending change of a line has held for the filter time and is recognised (R128). -/
def State.recogniseLine (s : State) (l : Fin 8) : State :=
  match (s.line l).pendingChange with
  | none => s
  | some (level, since) => (s.reach (since + Config.us (s.line l).filter)).recognise l level

/-! ## Notices, acknowledgement, setup (Section 7.5, 7.6) -/

/-- What the admission of a notice does to its line (R138). -/
def State.takeNotice (s : State) (l : Fin 8) : State :=
  (s.setLine l { s.line l with lost := false, outstanding := true }).lowerCount l 0

/-- An accepted SETUP ATTENTION (R141). -/
def State.setupLine (s : State) (l : Fin 8) (mode : LineMode) (priority filter : Nat) (report : Bool) : State :=
  let x := s.line l
  (s.setLine l { x with
    mode := mode
    priority := priority
    filter := filter
    report := report
    lost := false
    outstanding := false
    pendingChange := x.pendingChange.map fun c => (c.1, s.now) }).lowerCount l 0

end Sys2Proof.Machine
end

