-- ==== Sys2Proof/Machine/Engine.lean ====
section
/-! DEFINITION. The Bus Engine (Chapters 2 and 5): beginning an access, what a completed access does to its operation, the
settlement at an access boundary (R41), the release of the bus, and the levels of the pins in each tick. -/

namespace Sys2Proof.Machine

/-! ## Beginning an access -/

/-- The address with 0 on the lines above the window's address bits (R88). -/
def lowBits (bits : Nat) (addr : Word) : Word := addr &&& BitVec.ofNat 16 (2 ^ bits - 1)

/-- A pin access begins: the shared strobes take the inactive levels of its window (R91), and in DIRECT mode A takes the unit
address (R88). A scratch access moves no pin (R63). -/
def BusEngine.begin (b : BusEngine) (p : Profile) (a : Access) : BusEngine :=
  match p.target with
  | .scratch => { b with access := some a }
  | .pins =>
    { b with
      access := some a
      aHeld := if p.addressMode = .direct then lowBits p.addressBits a.addr else b.aHeld
      strobePolarity := p.strobePolarity
      advPolarity := p.advPolarity }

/-- The next access of the operation under way begins (R41 case 6, R87). -/
def State.beginAccess (s : State) (w : Fin 6) (r : Record) : State :=
  match r.op? with
  | none => s
  | some op =>
    match op.access? r.unitIndex with
    | none => s
    | some (kind, addr, value) =>
      let p := (s.window w).profile
      { s with bus := s.bus.begin p {
          window := w
          kind := kind
          addr := addr
          value := maskUnit p.width value
          elided := elides p op r.opIndex r.unitIndex s.bus.prevUnit
          start := s.now } }

/-- The next access begins, unless its window is still within its recovery time: then it waits, and no access is in progress
(R92). -/
def State.beginOrWait (s : State) (w : Fin 6) (r : Record) : State :=
  if s.recovering w then s else s.beginAccess w r

/-! ## Settlement at an access boundary (R41) -/

/-- What brought the RUNNING transaction to the boundary. -/
inductive Boundary
  /-- The operation has failed (case 1). -/
  | failed (reason : FailReason) (detail : Nat)
  /-- The operation has ended (case 2 when it was the last). -/
  | ended
  /-- A POLL attempt has missed with attempts remaining (case 4). -/
  | missed
  /-- Nothing has ended: a grant, a wait before the next access, or the next unit of the operation. -/
  | unit
deriving DecidableEq, Repr

/-- The record leaves RUNNING for PARKED with a wake condition, and the grant ends (R6, R70). -/
def State.parkHead (s : State) (w : Fin 6) (r : Record) (wake : Wake) : State :=
  (s.setHead w { r with state := .parked, wake := some wake }).dropGrant w

/-- The record leaves RUNNING for READY with its progress kept, and the grant ends (R41 case 5, R70). -/
def State.yieldHead (s : State) (w : Fin 6) (r : Record) : State :=
  (s.setHead w { r with state := .ready }).dropGrant w

/-- The slice limit is reached (R73). -/
def State.sliceReached (s : State) : Bool := decide (Config.sliceLimit ≤ s.sch.slice)

/-- Cases 5 and 6 of R41: the transaction becomes READY for the slice limit with another candidate, the hold flag or the external
master's request; otherwise a reached slice counter restarts (R73) and the next access begins, where `starts` lets it. -/
def State.yieldOrGo (s : State) (starts : Bool) (w : Fin 6) (r : Record) : State :=
  if s.sch.hold || s.requested || (s.sliceReached && s.anyCandidate) then s.yieldHead w r
  else
    let t := if s.sliceReached then { s with sch.slice := 0 } else s
    if starts then t.beginOrWait w r else t

/-- Cases 1 to 6 of R41 at a boundary of window `w`'s RUNNING head. A WAIT ATTENTION that ends at once settles again at the same
boundary, at most `n` times, the number of operations. -/
def State.settleUpTo (starts : Bool) (w : Fin 6) : Nat → Boundary → State → State
  | n, b, s =>
    match s.head w with
    | none => s
    | some r =>
      match b with
      | .failed reason detail => s.failHead w r reason detail
      | _ =>
        if b = .ended && r.finished then s.retireHead w r.endDone
        else match r.abort with
          | some cause => s.retireHead w (r.endCancelled cause)
          | none =>
            match r.op? with
            | some (.poll _ _ _ interval _) =>
              if b = .missed then s.parkHead w r (.timer (s.now + Config.us interval)) else s.yieldOrGo starts w r
            | some (.delay interval) => s.parkHead w r (.timer (s.now + Config.us interval))
            | some (.waitAttention l timeout) =>
              if (s.line l).mode = .off then s.failHead w r .lineOff l.val
              else
                let t := s.register l r.tag
                if r.tag ∈ (t.line l).waiters then
                  t.parkHead w r (.attention l (if timeout = 0 then none else some (t.now + Config.ms timeout)))
                else match n with
                  | 0 => t
                  | k + 1 => State.settleUpTo starts w k .ended t
            | _ => s.yieldOrGo starts w r

/-- The engine gives the bus to the external master (R101); `displaced` is the displaced window. -/
def State.releaseBus (s : State) (displaced : Option (Fin 6)) : State :=
  { s with
    bus.ownership := .released
    bus.release := some { at_ := s.now, start := none, displaced := displaced, overrun := false } }

/-- The window of the transaction that a release makes READY is displaced (R101). -/
def State.displacedWindow (s : State) (w : Fin 6) : Option (Fin 6) :=
  match s.head w with
  | some r => if r.state = .ready then some w else none
  | none => none

/-- At a boundary with no access in progress, an external request with sharing enabled releases an owned bus (R101). -/
def State.releaseAt (s : State) (w : Fin 6) : State :=
  if s.requested && decide (s.bus.ownership = .owned) && decide (s.bus.access = none) then
    s.releaseBus (s.displacedWindow w)
  else s

/-- The settlement of window `w`'s RUNNING head at an access boundary (R41), with the release that may follow it (R101). -/
def State.settle (s : State) (starts : Bool) (w : Fin 6) (b : Boundary) : State :=
  (State.settleUpTo starts w (match s.head w with | some r => r.ops.length | none => 0) b s).releaseAt w

/-- The RUNNING transaction stands at a boundary with no access in progress, and is settled there for a hold, an abort request
or a bus request just made (R82, R92, R101, R107). -/
def State.settleWaiting (s : State) : State :=
  match s.running with
  | some (w, _) => if s.bus.access = none then s.settle true w .unit else s
  | none => s

/-- A release begins, or is waited for, when BREQ is asserted with sharing enabled (R100, R101): with a RUNNING transaction at a
boundary through its settlement, with none at once, and with an access in progress at the boundary that follows it. -/
def State.answerRequest (s : State) : State :=
  if s.requested then
    match s.running with
    | some _ => s.settleWaiting
    | none =>
      if s.bus.ownership = .owned && decide (s.bus.access = none) then s.releaseBus none else s
  else s

/-- The release ends (R102): BGNT deasserts, and in the tick after, the engine drives the outputs again, ownership is OWNED, the
release record is discarded and every window's recovery timer starts. The level that the weak hold finds on D is free. -/
def State.endRelease (s : State) : State :=
  let t := s.reach (s.now + 1)
  { t with
    bus.ownership := .owned
    bus.release := none
    bus.recovery := Vector.replicate 6 (some t.now)
    bus.dHeld := Config.heldData s.freed
    freed := s.freed + 1 }

/-! ## What a completed access does to its operation (Chapter 2) -/

/-- The next unit of a block operation, or its end when unit `count - 1` is done (R29, R30). -/
def Record.nextUnit (r : Record) (count : Nat) : Record × Boundary :=
  if count ≤ r.unitIndex + 1 then (r.advance, .ended) else ({ r with unitIndex := r.unitIndex + 1 }, .unit)

/-- A POLL's read of `v` (R33, R34). -/
def Record.polled (r : Record) (width : Width) (v mask want : Word) (attempts : Nat) : Record × Boundary :=
  if v &&& maskUnit width mask = maskUnit width want then (r.advance, .ended)
  else
    let t := { r with attempts := r.attempts + 1 }
    if t.attempts < attempts then (t, .missed) else (t, .failed .pollExhausted t.attempts)

/-- A SCAN's read of `v` (R35, R36). -/
def Record.scanned (r : Record) (width : Width) (v key mask : Word) (cond : ScanCond) (count : Nat) (requireHit : Bool) :
    Record × Boundary :=
  if cond.holds (v &&& maskUnit width mask) (maskUnit width key) then
    ((r.append (natBytes r.unitIndex)).advance, .ended)
  else
    let t := { r with unitIndex := r.unitIndex + 1 }
    if count ≤ t.unitIndex then
      let u := t.append (wordBytes 0xFFFF#16)
      if requireHit then (u, .failed .notFound count) else (u.advance, .ended)
    else (t, .unit)

/-- The record after its access has completed, and what it brings to the boundary (R28 to R36). For a MODIFY this is its write
(R31). `v` is the unit read. -/
def Record.accessed (r : Record) (op : Op) (width : Width) (v : Word) : Record × Boundary :=
  match op with
  | .write _ _ => (r.advance, .ended)
  | .writeBlock _ _ vs => r.nextUnit vs.length
  | .read _ n _ => (r.append (unitBytes width v)).nextUnit n
  | .modify _ _ _ _ => (r.advance, .ended)
  | .poll _ mask want _ attempts => r.polled width v mask want attempts
  | .scan _ n _ key mask cond req => r.scanned width v key mask cond n req
  | .waitAttention _ _ | .delay _ => (r, .unit)

/-- The detail of a READY_TIMEOUT (Table 2–2). -/
def Record.timeoutDetail (r : Record) (op : Op) (kind : AccessKind) : Nat :=
  match op with
  | .write _ _ => 0
  | .writeBlock _ _ _ | .read _ _ _ | .scan _ _ _ _ _ _ _ => r.unitIndex
  | .modify _ _ _ _ => match kind with
    | .read => 0
    | .write => 1
  | .poll _ _ _ _ _ => r.attempts + 1
  | .waitAttention _ _ | .delay _ => 0

/-- The value a MODIFY writes (R31). -/
def modified (old andMask orMask : Word) : Word := (old &&& andMask) ||| orMask

/-- A HOLD that waited for this access is answered HELD, with its own count (R81, R152). -/
def State.answerHold (s : State) : State :=
  match s.dsp.holdWait with
  | none => s
  | some count => { s with dsp.holdWait := none }.formReply count 0x08#8 .held [flagByte false]

/-- The access in progress is over: it counts toward the slice (R72), the transaction is settled at the boundary, and a waiting
HOLD is answered. -/
def State.endAccess (s : State) (w : Fin 6) (k i : Nat) (r : Record) (b : Boundary) : State :=
  (({ s with
      bus.access := none
      bus.prevUnit := some (k, i)
      sch.slice := s.sch.slice + 1 }.setHead w r).settle true w b).answerHold

/-- The read of a MODIFY is over: no boundary follows it, and its write begins when the window's recovery time has passed (R31);
at a scratch target it begins at once. -/
def State.beginModifyWrite (s : State) (a : Access) (r : Record) (value : Word) : State :=
  let p := (s.window a.window).profile
  let start := match p.target with
    | .pins => s.now + p.recovery
    | .scratch => s.now
  { s with
    bus := { s.bus.begin p { a with kind := .write, value := value, elided := false, start := start } with prevUnit := none }
    sch.slice := s.sch.slice + 1 }.setHead a.window r

/-- The access `a` has completed with the unit `v` read, and its operation takes it (R87). -/
def State.takeUnit (s : State) (a : Access) (v : Word) : State :=
  let width := (s.window a.window).profile.width
  match s.head a.window with
  | none => { s with bus.access := none }
  | some r =>
    match r.op?, a.kind with
    | none, _ => { s with bus.access := none }
    | some (.modify _ k o ret), .read =>
      s.beginModifyWrite a (if ret then r.append (unitBytes width v) else r)
        (modified v (maskUnit width k) (maskUnit width o))
    | some op, _ => s.endAccess a.window r.opIndex r.unitIndex (r.accessed op width v).1 (r.accessed op width v).2

/-- CSn of the window deasserts now: its recovery timer starts (R87, R92). -/
def State.startRecovery (s : State) (w : Fin 6) : State :=
  { s with bus.recovery := s.bus.recovery.set w.val (some s.now) w.isLt }

/-- The lines of D used at the width, with the rest as they were (R90). -/
def driveData (width : Width) (held v : Word) : Word :=
  match width with
  | .w8 => (held &&& 0xFF00#16) ||| (v &&& 0x00FF#16)
  | .w16 => v

/-- A pin access completes after a strobe of the given length (R87): the clock reaches its last hold tick, the recovery timer
starts, the weak hold keeps the last levels of D, and the operation takes the unit. -/
def State.completePin (s : State) (a : Access) (strobe : Nat) (data : Word) : State :=
  let p := (s.window a.window).profile
  let v := match a.kind with
    | .read => maskUnit p.width data
    | .write => a.value
  let t := (s.reach (a.start + accessTicks p a.elided strobe)).startRecovery a.window
  { t with bus.dHeld := driveData p.width t.bus.dHeld v }.takeUnit a v

/-- A scratch access completes 2 ticks after it begins (R63): a write replaces its whole unit, a read returns it. -/
def State.completeScratch (s : State) (a : Access) : State :=
  let width := (s.window a.window).profile.width
  let t := s.reach (a.start + 2)
  match a.kind with
  | .read => t.takeUnit a (scratchReadUnit t.bus.scratch width a.addr)
  | .write => { t with bus.scratch := scratchWriteUnit t.bus.scratch width a.addr a.value }.takeUnit a a.value

/-- A pin access times out (R96): it took strobe width plus ready limit, nothing is sampled, it counts toward the slice, and the
transaction fails READY_TIMEOUT at the boundary. The level that a read leaves on D is free. -/
def State.timeoutPin (s : State) (a : Access) : State :=
  let p := (s.window a.window).profile
  let u := (s.reach (a.start + accessTicks p a.elided (p.strobe + p.readyLimit))).startRecovery a.window
  let t : State := match a.kind with
    | .read => { u with bus.dHeld := driveData p.width u.bus.dHeld (Config.heldData u.freed), freed := u.freed + 1 }
    | .write => { u with bus.dHeld := driveData p.width u.bus.dHeld a.value }
  match t.head a.window with
  | none => { t with bus.access := none }
  | some r =>
    match r.op? with
    | none => { t with bus.access := none }
    | some op =>
      t.endAccess a.window r.opIndex r.unitIndex r (.failed .readyTimeout (r.timeoutDetail op a.kind))

/-! ## Levels of the pins (R87 to R91, R98, R101) -/

/-- The phases of a pin access (Table 5–2). -/
inductive Phase
  | address0
  | address1
  | setup
  | strobe
  | hold
deriving DecidableEq, Repr

/-- The phase that an access with a strobe of the given length has reached `e` ticks after its start (Table 5–2). -/
def phaseAt (p : Profile) (elided : Bool) (strobe e : Nat) : Phase :=
  let whole := addressTicks p elided
  let first := if whole = 0 then 0 else p.addressPhase
  if e < first then .address0
  else if e < whole then .address1
  else if e < whole + p.setup then .setup
  else if e < whole + p.setup + strobe then .strobe
  else .hold

/-- The level of a pin of the given polarity, asserted or not (R54). -/
def levelOf (p : Polarity) (asserted : Bool) : Level :=
  match p, asserted with
  | .lowActive, true | .highActive, false => .low
  | .lowActive, false | .highActive, true => .high

/-- Every CSn at the inactive level of its window's CS polarity, but for the window whose access is in progress (R54, R91). -/
def State.chipSelects (s : State) (active : Option (Fin 6)) : Vector Level 6 :=
  Vector.ofFn fun w => levelOf (s.window w).profile.csPolarity (decide (active = some w))

/-- What the part drives on the two halves of D in a phase of an access (R89, R90, R98). -/
def dataLines (p : Profile) (a : Access) (ph : Phase) : Option Byte × Option Byte :=
  let addr := lowBits p.addressBits a.addr
  let lo := some (addr.setWidth 8 : Byte)
  let hi := some ((addr >>> 8).setWidth 8 : Byte)
  match ph with
  | .address0 => (lo, if p.addressMode = .single ∧ p.width = .w16 then hi else none)
  | .address1 => (hi, none)
  | .setup | .strobe | .hold =>
    match a.kind with
    | .read => (none, none)
    | .write => (some (a.value.setWidth 8), if p.width = .w16 then some ((a.value >>> 8).setWidth 8) else none)

/-- The pins between accesses while the engine owns the bus (R91). -/
def State.restPins (s : State) : Pins where
  cs := s.chipSelects none
  rds := levelOf s.bus.strobePolarity false
  wrs := levelOf s.bus.strobePolarity false
  adv0 := levelOf s.bus.advPolarity false
  adv1 := levelOf s.bus.advPolarity false
  a := some s.bus.aHeld
  dLow := none
  dHigh := none
  weakHold := some s.bus.dHeld
  bgnt := false

/-- The levels that the address phases of an access leave on D, where they drove it (R89, R90). -/
def addressLevels (p : Profile) (a : Access) (held : Word) : Word :=
  if a.elided then held
  else match p.addressMode with
    | .direct => held
    | .single => driveData p.width held (lowBits p.addressBits a.addr)
    | .double => driveData .w8 held (lowBits p.addressBits a.addr >>> 8)

/-- The level that the weak hold keeps on the lines of D that no one drives in a phase of an access (R90): those the address left, and
after the strobe of a read the unit that was on D as it ended, which is free where the access has timed out. -/
def State.heldLevels (s : State) (a : Access) (ph : Phase) (data : Word) (rdy : List Bool) : Word :=
  let p := (s.window a.window).profile
  let held := addressLevels p a s.bus.dHeld
  if ph = .hold ∧ a.kind = .read then
    driveData p.width held (if (strobeTicks p rdy).isSome then data else Config.heldData s.freed)
  else held

/-- The pins in a phase of a pin access (R87 to R90, R98), with the levels of RDY that the strobe has met and those of D as it ends.
The weak hold shows on the lines that are not driven. -/
def State.accessPins (s : State) (a : Access) (data : Word) (rdy : List Bool) : Pins :=
  let p := (s.window a.window).profile
  let ph := phaseAt p a.elided (strobeLength p rdy) (s.now - a.start)
  let d := dataLines p a ph
  { s.restPins with
    weakHold := some (s.heldLevels a ph data rdy)
    cs := s.chipSelects (some a.window)
    rds := levelOf s.bus.strobePolarity (decide (ph = .strobe ∧ a.kind = .read))
    wrs := levelOf s.bus.strobePolarity (decide (ph = .strobe ∧ a.kind = .write))
    adv0 := levelOf s.bus.advPolarity (decide (ph = .address0))
    adv1 := levelOf s.bus.advPolarity (decide (ph = .address1))
    dLow := d.1
    dHigh := d.2 }

/-- Every peripheral-bus output at high impedance, the weak hold removed (R101); BGNT is driven at all times. -/
def floatingPins (bgnt : Bool) : Pins where
  cs := Vector.replicate 6 .floating
  rds := .floating
  wrs := .floating
  adv0 := .floating
  adv1 := .floating
  a := none
  dLow := none
  dHigh := none
  weakHold := none
  bgnt := bgnt

/-- The pins as the engine's state gives them in this tick: at rest, in an access of a pin target, or released from the tick
after the release event on (R101). -/
def State.enginePins (s : State) (data : Word) (rdy : List Bool) : Pins :=
  match s.bus.release with
  | some r => if r.at_ < s.now then floatingPins r.start.isSome else s.restPins
  | none =>
    match s.bus.access with
    | some a =>
      if (s.window a.window).profile.target = .pins && decide (a.start ≤ s.now) then s.accessPins a data rdy else s.restPins
    | none => s.restPins

/-- The levels of the peripheral-bus outputs and BGNT in this tick: in the tick in which a reset is taken those of R120 and R104,
else those of the engine. `data` and `rdy` are the outside's part in an access, as ACCESS_COMPLETION carries it: the levels of D as the
strobe ends, and those of RDY in the ticks of the strobe, as far as they have been sampled. Log entry 29. -/
def State.pins (s : State) (data : Word) (rdy : List Bool) : Pins :=
  match s.bus.resetPins with
  | some (t, p) => if s.now ≤ t then p else s.enginePins data rdy
  | none => s.enginePins data rdy

end Sys2Proof.Machine
end

