-- ==== Sys2Proof/Machine/Scheduler.lean ====
section
/-! DEFINITION. The Scheduler (Chapter 4): the grant, the end of a recovery time, and the expiries of the park timers. -/

namespace Sys2Proof.Machine

/-- Window `w`'s head is granted (R69): it becomes RUNNING, the grant names it, the pointer takes its window, the slice counter
becomes 0, and the engine settles it at the boundary that every grant begins with. -/
def State.grantTo (s : State) (starts : Bool) (w : Fin 6) : State :=
  match s.head w with
  | none => s
  | some r =>
    ({ s with
        sch.grant := some w
        sch.pointer := w
        sch.slice := 0
        bus.prevUnit := none }.setHead w { r with state := .running }).settle starts w .unit

/-- The Scheduler makes its choice when the engine is idle, the bus usable and a candidate exists (R68). No rule gives the moment of the
grant. In a window with a DELAY behind it, it comes no sooner than the spacing of R40 asks: log entry 34. -/
def State.makeChoice (s : State) (starts : Bool) : State :=
  if s.engineIdle && s.usable then
    match s.choice with
    | some w => (s.reach (s.spacedFrom w)).grantTo starts w
    | none => s
  else s

/-- The waiting access of the RUNNING transaction of window `w` begins: no access is in progress, the hold flag is clear and the
engine owns the bus (R69, R92). -/
def State.beginWaiting (s : State) (w : Fin 6) : State :=
  match s.running with
  | none => s
  | some (v, r) =>
    if decide (v = w) && decide (s.bus.access = none) && s.usable then s.beginOrWait w r else s

/-- The recovery time of window `w` ends (R92): the clock has reached the end, the timer places no constraint any more, and the
access that waited for it begins. The timer keeps its start, from which a longer recovery value would count (R60): log entry 33. Where
there is no recovery time to end, as at a SCRATCH target (R55), an access that has not begun begins at once: log entry 9. -/
def State.endRecovery (s : State) (w : Fin 6) : State :=
  match s.recoveryEnds w with
  | none => s.beginWaiting w
  | some t => (s.reach t).beginWaiting w

/-- A DELAY of window `w` ends at its deadline, from which the spacing of R40 counts; no recovery timer starts (R92). -/
def State.endDelay (s : State) (w : Fin 6) (deadline : Nat) : State :=
  { s with sch.delayEnds := s.sch.delayEnds.set w.val (some deadline) w.isLt }

/-- The deadline of window `w`'s head when it is PARKED with a park timer, with the operation that parked it (R75). -/
def State.parkTimer (s : State) (w : Fin 6) : Option (Record × Op × Nat) :=
  match s.head w with
  | none => none
  | some r =>
    if r.state = .parked then
      match r.op?, r.wake with
      | some op, some (.timer d) => some (r, op, d)
      | some op, some (.attention _ (some d)) => some (r, op, d)
      | _, _ => none
    else none

/-- The timer of a record PARKED in a POLL expires (R76). -/
def State.expirePoll (s : State) (w : Fin 6) : State :=
  match s.parkTimer w with
  | some (r, .poll _ _ _ _ _, d) => (s.reach d).setHead w { r with state := .ready, wake := none }
  | _ => s

/-- The timer of a record PARKED in a DELAY expires (R77): the DELAY ends. -/
def State.expireDelay (s : State) (w : Fin 6) : State :=
  match s.parkTimer w with
  | some (r, .delay _, d) =>
    let t := (s.reach d).endDelay w d
    if r.advance.finished then t.retireHead w r.advance.endDone
    else t.setHead w { r.advance with state := .ready, wake := none }
  | _ => s

/-- The deadline of a record PARKED in a WAIT ATTENTION expires (R39): the waiter is removed and the operation fails
WAIT_TIMEOUT. -/
def State.expireWait (s : State) (w : Fin 6) : State :=
  match s.parkTimer w with
  | some (r, .waitAttention _ timeout, d) => ((s.reach d).dropWake r).failHead w r .waitTimeout timeout
  | _ => s

end Sys2Proof.Machine
end

