-- ==== Sys2Proof/Machine/Reports.lean ====
section
/-! DEFINITION. The Reporter (Chapter 9): the admission arbiter, its starvation guard, the effect of an admission on its source,
the share-overrun notice, and the bytes of the report messages (Section 11.4). -/

namespace Sys2Proof.Machine

/-! ## Admission (R167 to R169) -/

/-- The four sources that wait for admission (Table 9–3). -/
inductive Source
  | reply
  | completion
  | shareOverrun
  | attention
deriving DecidableEq, Repr

/-- The source that the arbiter admits (R168): attention when the starvation counter is 4 and a line is eligible, else the waiting
source of lowest preference number. -/
def State.admittedSource (s : State) : Option Source :=
  if s.rpt.starvation = Config.starvationLimit ∧ s.anyEligible = true then some .attention
  else if s.dsp.slot.isSome then some .reply
  else if s.rpt.backlog ≠ [] then some .completion
  else if s.rpt.overrun.isSome then some .shareOverrun
  else if s.anyEligible then some .attention
  else none

/-- A report joins the tail of the Report Queue with the next serial (R163, R164). -/
def State.pushReport (s : State) (c : ReportContent) : State :=
  { s with
    rpt.queue := s.rpt.queue ++ [{ serial := s.rpt.serial, content := c }]
    rpt.serial := s.rpt.serial + 1 }

/-- The starvation counter after an admission of preference 1 to 3 (R168). -/
def State.countStarvation (s : State) : State :=
  { s with rpt.starvation := if s.anyEligible then min Config.starvationLimit (s.rpt.starvation + 1) else 0 }

/-- The content of the COMPLETION report of a record (R161). -/
def Record.completionReport (r : Record) : ReportContent :=
  .completion r.tag r.window r.acceptedCount r.outcome r.opsCompleted r.failIndex r.detail r.data

/-- The content of the ATTENTION notice of a line (R138). -/
def Line.notice (x : Line) (l : Fin 8) : ReportContent := .attention l x.count x.lost x.level x.lastEdge

/-- Admission of the pending reply: the slot empties and the Dispatcher is IDLE (R169). -/
def State.admitReply (s : State) : State :=
  match s.dsp.slot with
  | none => s
  | some r => { (s.countStarvation.pushReport (.reply r)) with dsp.slot := none }

/-- Admission of the backlog head: its record is freed and its tag released (R11, R169). -/
def State.admitCompletion (s : State) : State :=
  match s.rpt.backlog with
  | [] => s
  | r :: rest => { (s.countStarvation.pushReport r.completionReport) with rpt.backlog := rest }

/-- Admission of the share-overrun notice: the flag clears (R162, R169). -/
def State.admitOverrun (s : State) : State :=
  match s.rpt.overrun with
  | none => s
  | some o => { (s.countStarvation.pushReport (.shareOverrun o.limit o.window o.count)) with rpt.overrun := none }

/-- Admission of an attention notice for the best eligible line (R137, R138, R169). -/
def State.admitAttention (s : State) : State :=
  match s.bestLine with
  | none => s
  | some l => { (s.pushReport ((s.line l).notice l)).takeNotice l with rpt.starvation := 0 }

/-- One admission, when an entry is free and a source waits (R167). -/
def State.admitOne (s : State) : State :=
  if s.entryFree then
    match s.admittedSource with
    | some .reply => s.admitReply
    | some .completion => s.admitCompletion
    | some .shareOverrun => s.admitOverrun
    | some .attention => s.admitAttention
    | none => s
  else s

/-- A raise of a share overrun reaches the Reporter (R162): it sets the notice flag, or the pending notice absorbs it. -/
def State.raiseOverrun (s : State) (limit : Nat) (window : Option (Fin 6)) : State :=
  match s.rpt.overrun with
  | none => { s with rpt.overrun := some { limit := limit, window := window, count := 1 } }
  | some o => { s with rpt.overrun := some { o with count := min 255 (o.count + 1) } }

/-- The Bus Engine raises one share overrun when a release has lasted longer than a limit other than 0 (R103). -/
def State.overrunRelease (s : State) : State :=
  match s.bus.release with
  | none => s
  | some r =>
    match r.start with
    | none => s
    | some t0 =>
      if s.bus.shareLimit = 0 ∨ r.overrun = true then s
      else
        let t := s.reach (t0 + Config.us s.bus.shareLimit)
        { t with bus.release := some { r with overrun := true } }.raiseOverrun s.bus.shareLimit r.displaced

/-! ## Report bytes (Table 11–6, R193) -/

/-- The number of a result code: the order of Table 8–2 (R193). -/
def ResultCode.byte : ResultCode → Byte
  | .accepted => 0x00#8
  | .held => 0x01#8
  | .badFormat => 0x02#8
  | .badTag => 0x03#8
  | .badWindow => 0x04#8
  | .windowDisabled => 0x05#8
  | .windowFaulted => 0x06#8
  | .badOperation => 0x07#8
  | .badValue => 0x08#8
  | .badLine => 0x09#8
  | .addrRange => 0x0A#8
  | .resultTooLarge => 0x0B#8
  | .dupTag => 0x0C#8
  | .poolFull => 0x0D#8
  | .queueFull => 0x0E#8
  | .busy => 0x0F#8
  | .unknownTag => 0x10#8
  | .tooLate => 0x11#8
  | .notFaulted => 0x12#8
  | .notHeld => 0x13#8
  | .notOutstanding => 0x14#8

/-- The outcome byte and the reason or cause byte (R193). An outcome that is absent, which no COMPLETING record has, reads as
DONE. -/
def outcomeBytes : Option TxOutcome → List Byte
  | none | some .done => [0#8, 0#8]
  | some (.failed .readyTimeout) => [1#8, 1#8]
  | some (.failed .pollExhausted) => [1#8, 2#8]
  | some (.failed .notFound) => [1#8, 3#8]
  | some (.failed .waitTimeout) => [1#8, 4#8]
  | some (.failed .lineOff) => [1#8, 5#8]
  | some (.cancelled .byCancel) => [2#8, 1#8]
  | some (.cancelled .byFlush) => [2#8, 2#8]
  | some (.cancelled .byFaultDiscard) => [2#8, 3#8]

/-- The bytes of a report's content after the kind and the serial (Table 11–6). -/
def ReportContent.fields : ReportContent → List Byte
  | .reply r => [r.kind] ++ wordBytes r.count ++ [r.code.byte] ++ r.body
  | .completion tag w count outcome ops fail detail data =>
    wordBytes tag ++ [byteOf w.val] ++ wordBytes count ++ outcomeBytes outcome
      ++ [byteOf ops, match fail with | some k => byteOf k | none => 0xFF#8] ++ natBytes detail ++ [byteOf data.length] ++ data
  | .attention l count lost level edge => [byteOf l.val, byteOf count, flagByte lost, flagByte level, edge.byte]
  | .shareOverrun limit w count =>
    natBytes limit ++ [match w with | some v => byteOf v.val | none => 0xFF#8, byteOf count]

/-- The kind code of a report (Table 11–6). -/
def ReportContent.code : ReportContent → Byte
  | .reply _ => 0x80#8
  | .completion _ _ _ _ _ _ _ _ => 0x81#8
  | .attention _ _ _ _ _ => 0x82#8
  | .shareOverrun _ _ _ => 0x83#8

/-- The message of a report (Table 11–6). -/
def Report.bytes (r : Report) : List Byte := [r.content.code] ++ wordBytes r.serial ++ r.content.fields

end Sys2Proof.Machine
end

