-- ==== Sys2Proof/Machine/Link.lean ====
section
/-! DEFINITION. The Link Controller (Chapter 10): the CRC, frames, the receiver, sorting and acknowledgement of host frames, the
replay buffer, the transmitter, retransmission, resynchronisation and announcing. -/

namespace Sys2Proof.Machine

/-! ## CRC and frames (R174, R175, R190, Table 11–1) -/

/-- One bit of the CRC, most significant first, generator x^16 + x^12 + x^5 + 1 (R175). -/
def crcShift (c : Word) : Word := if c.msb then (c <<< 1) ^^^ 0x1021#16 else c <<< 1

/-- One byte of the CRC. -/
def crcByte (c : Word) (b : Byte) : Word :=
  crcShift (crcShift (crcShift (crcShift (crcShift (crcShift (crcShift (crcShift (c ^^^ (b.setWidth 16 <<< 8)))))))))

/-- The CRC of bytes, from 0xFFFF and with no final inversion (R175). -/
def crc (bytes : List Byte) : Word := bytes.foldl crcByte 0xFFFF#16

/-- The two CRC bytes, high byte first (R175). -/
def crcBytes (bytes : List Byte) : List Byte := [((crc bytes) >>> 8).setWidth 8, (crc bytes).setWidth 8]

/-- The sync byte. -/
def syncByte : Byte := 0x5A#8

/-- The SeqAck byte (Table 11–1). -/
def seqAck (seq ack : SeqNum) : Byte := seq ++ ack

/-- The bytes of a frame after its sync byte and before its CRC: Length, Control, SeqAck, Message. -/
def frameBody (control sa : Byte) (msg : Message) : List Byte := [byteOf (msg.length + 2), control, sa] ++ msg

/-- A whole frame (Table 11–1). -/
def frameBytes (control sa : Byte) (msg : Message) : List Byte :=
  [syncByte] ++ frameBody control sa msg ++ crcBytes (frameBody control sa msg)

/-- The CRC of a gathered frame agrees with its last two bytes (R175). -/
def frameValid (g : List Byte) : Bool :=
  decide (crcBytes (g.take (g.length - 2)) = g.drop (g.length - 2))

/-- The Control byte of a gathered frame, whose byte 0 is its Length. -/
def frameControl (g : List Byte) : Byte := g.getD 1 0#8

/-- The sequence nibble of a gathered frame. -/
def frameSeq (g : List Byte) : SeqNum := ((g.getD 2 0#8) >>> 4).setWidth 4

/-- The acknowledgement nibble of a gathered frame. -/
def frameAck (g : List Byte) : SeqNum := (g.getD 2 0#8).setWidth 4

/-- The Message of a gathered frame. -/
def frameMessage (g : List Byte) : Message := (g.take (g.length - 2)).drop 3

/-! ## Bytes on the line (R173) -/

/-- The levels of one byte on the line, in order: the start bit, 8 data bits least significant first, the stop bit (R173). -/
def byteLevels (b : Byte) : List Bool := [false] ++ (List.range 8).map (fun i => b.getLsbD i) ++ [true]

/-- The byte that the receiver takes from the levels of a byte on the line: its data bits, whatever the stop bit shows (R173). -/
def levelsByte (levels : List Bool) : Byte :=
  (List.range 8).foldr (fun i b => b <<< 1 ||| (if levels.getD (i + 1) true then 1#8 else 0#8)) 0#8

/-- The levels of a frame's bytes on the line, in order. -/
def frameLevels (bytes : List Byte) : List Bool := bytes.flatMap byteLevels

/-! ## The receiver (R174) -/

/-- A byte examined while hunting: a sync byte begins a frame, another is discarded. -/
def hunt (b : Byte) (now : Nat) : Receiver := if b = syncByte then .inside [] now else .hunting

/-- One byte received on RXD: while hunting it is examined; after a sync byte it is the Length, and out of 2 to 246 it is itself
examined as a possible sync byte; inside a frame it is gathered, and after the second CRC byte the frame awaits its check. -/
def Link.receive (k : Link) (b : Byte) (now : Nat) : Link :=
  match k.receiver with
  | .hunting => { k with receiver := hunt b now }
  | .inside [] _ =>
    if 2 ≤ b.toNat ∧ b.toNat ≤ 246 then { k with receiver := .inside [b] now } else { k with receiver := hunt b now }
  | .inside (len :: more) _ =>
    let g := len :: (more ++ [b])
    if g.length = len.toNat + 3 then { k with receiver := .hunting, gathered := some g }
    else { k with receiver := .inside g now }

/-! ## Counters (R189) -/

/-- A counter rises by one and stays at 65535. -/
def bump (n : Nat) : Nat := min 65535 (n + 1)

/-! ## The transmitter (R185) -/

/-- The byte of a reset cause (Table 11–8). -/
def ResetCause.byte : ResetCause → Byte
  | .none => 0#8
  | .power => 1#8
  | .pin => 2#8
  | .soft => 3#8

/-- The ANNOUNCE message with the given cause (R188, Table 11–8). -/
def State.announceMessage (s : State) (cause : ResetCause) : Message :=
  wordBytes Config.partCode ++ [Config.revision, cause.byte]
    ++ [byteOf Config.windows, byteOf Config.poolRecords, byteOf Config.reportEntries, byteOf Config.intakeEntries,
        byteOf Config.sendWindow]
    ++ wordBytes s.rpt.serial ++ wordBytes s.dsp.count

/-- The transmitter begins a frame. -/
def State.sendFrame (s : State) (kind : TxKind) (bytes : List Byte) : State :=
  { s with lnk.tx := some { kind := kind, bytes := bytes, begun := s.now } }

/-- A DATA, ACK or NAK frame begins: it carries the receive expected sequence, and satisfies an owed acknowledgement (R175, R179). -/
def State.sendAcking (s : State) (kind : TxKind) (control : Byte) (seq : SeqNum) (msg : Message) : State :=
  { (s.sendFrame kind (frameBytes control (seqAck seq s.lnk.rxExpected) msg)) with lnk.ackOwed := .none }

/-- Mark a frame of the replay buffer, named by its report's serial. -/
def markSent (serial : Word) (f : Sent → Sent) (q : List ReplayFrame) : List ReplayFrame :=
  q.map fun x => if x.report.serial = serial then { x with sent := f x.sent } else x

/-- The sequence of the frame after the one of sequence `n` in the buffer, or none. -/
def seqAfter (n : SeqNum) : List ReplayFrame → Option SeqNum
  | [] => none
  | x :: rest => if x.seq = n then rest.head?.map ReplayFrame.seq else seqAfter n rest

/-- The transmission of a frame of the replay buffer begins: its first one, or a retransmission (R182, R183). A retransmission is
counted as it begins: DESIGN CHOICE, log entry 37. -/
def State.sendData (s : State) (x : ReplayFrame) : State :=
  let t := s.sendAcking (.data (some x.report.serial)) 0x01#8 x.seq x.report.bytes
  match x.sent with
  | .notBegun => { t with lnk.replay := markSent x.report.serial (fun _ => .begun) t.lnk.replay }
  | .begun | .ended => { t with lnk.counters.retransmission := bump t.lnk.counters.retransmission }

/-- The frame that the resend point names (R185, order 4). -/
def Link.resendFrame (k : Link) : Option ReplayFrame :=
  match k.resendPoint with
  | none => none
  | some n => k.replay.find? fun x => decide (x.seq = n)

/-- The first frame that has not begun its first transmission (R185, order 5). -/
def Link.newFrame (k : Link) : Option ReplayFrame := k.replay.find? fun x => decide (x.sent = .notBegun)

/-- A NAK is due (R185, order 3): for damaged frames, or for out-of-order frames whatever the NAK state (R178, R180). -/
def Link.nakDue (k : Link) : Bool := decide (k.nak = .due) || k.nakOutOfOrder

/-- In UP, the first of the orders 3 to 6 of R185 that is due begins. One NAK answers all that made it due (R178). -/
def State.transmitUp (s : State) : State :=
  if s.lnk.nakDue then { (s.sendAcking .nak 0x03#8 0#4 []) with lnk.nak := .sent, lnk.nakOutOfOrder := false }
  else match s.lnk.resendFrame with
    | some x => { (s.sendData x) with lnk.resendPoint := seqAfter x.seq s.lnk.replay }
    | none =>
      match s.lnk.newFrame with
      | some x => s.sendData x
      | none => if s.lnk.ackOwed = .requested then s.sendAcking .ack 0x02#8 0#4 [] else s

/-- The cause that a RESYNC frame of the part carries: that of the reset in START, NONE in STALLED (R187). -/
def Link.announceCause (k : Link) : ResetCause := if k.state = .start then k.cause else .none

/-- With TXD idle, the transmitter begins the first frame that is due, in the order of R185. -/
def State.transmit (s : State) : State :=
  if s.lnk.tx ≠ none then s
  else if s.lnk.resyncReplyDue then
    { (s.sendFrame .resyncReply (frameBytes 0x05#8 0#8 (s.announceMessage s.lnk.cause))) with lnk.resyncReplyDue := false }
  else match s.lnk.state with
    | .up => s.transmitUp
    | .start | .stalled =>
      if s.lnk.resyncDue then
        { (s.sendFrame .resync (frameBytes 0x04#8 0#8 (s.announceMessage s.lnk.announceCause))) with lnk.resyncDue := false }
      else s

/-! ## The retransmission timer (R181 to R184) -/

/-- The timer starts, or restarts, with the timeout in force (R158). -/
def State.startTimer (s : State) : State := { s with lnk.timer := some (s.now + Config.ms s.lnk.timeout) }

/-- The buffer holds a frame whose first transmission has ended. -/
def Link.anyEnded (k : Link) : Bool := k.replay.any fun x => decide (x.sent = .ended)

/-- The timer restarts when a frame's first transmission has ended, else it stops (R181, R184). -/
def State.restartTimer (s : State) : State :=
  if s.lnk.anyEnded then s.startTimer else { s with lnk.timer := none }

/-- A go-back from sequence `n`: every frame from `n` to the newest is due again, and the timer restarts (R183). -/
def State.goBack (s : State) (n : SeqNum) : State := { s with lnk.resendPoint := some n }.restartTimer

/-- The number of frames that acknowledgement `a` releases (R181). -/
def Link.released (k : Link) (a : SeqNum) : Nat :=
  match k.replay with
  | [] => 0
  | x :: _ =>
    let d := (a - x.seq).toNat
    if d ≤ k.replay.length then d else 0

/-- An acknowledgement value is acted on against the replay buffer (R181). -/
def State.acknowledge (s : State) (a : SeqNum) : State :=
  let d := s.lnk.released a
  if d = 0 then s
  else
    let gone := s.lnk.replay.take d
    let left := s.lnk.replay.drop d
    { s with
      lnk.replay := left
      lnk.retry := 0
      lnk.resendPoint :=
        match s.lnk.resendPoint, left with
        | none, _ => none
        | some _, [] => none
        | some n, x :: _ => if gone.any (fun y => decide (y.seq = n)) then some x.seq else some n }.restartTimer

/-! ## Frames from the host (R175 to R183) -/

/-- A damaged frame in UP makes one NAK due for each value of the expected sequence (R180). -/
def Link.damaged (k : Link) : Link :=
  if k.state = .up ∧ k.nak = .clear then { k with nak := .due } else k

/-- An acknowledgement is owed from now on; one owed or requested before keeps its moment (R179). -/
def AckOwed.owe (a : AckOwed) (now : Nat) : AckOwed :=
  match a with
  | .none => .since now
  | .since t => .since t
  | .requested => .requested

/-- A DATA frame in UP is sorted by its sequence (R176): accepted, dropped for a full Intake Queue, a duplicate, or out of order
(R177, R178). -/
def State.sortData (s : State) (seq : SeqNum) (msg : Message) : State :=
  let d := (seq - s.lnk.rxExpected).toNat
  if d = 0 then
    if s.lnk.intake.length < Config.intakeEntries then
      { s with
        lnk.intake := s.lnk.intake ++ [msg]
        lnk.rxExpected := s.lnk.rxExpected + 1
        lnk.nak := .clear
        lnk.ackOwed := s.lnk.ackOwed.owe s.now }
    else { s with lnk.counters.intakeFull := bump s.lnk.counters.intakeFull }
  else if 12 ≤ d then
    { s with lnk.counters.duplicate := bump s.lnk.counters.duplicate, lnk.ackOwed := .requested }
  else { s with lnk.counters.outOfOrder := bump s.lnk.counters.outOfOrder, lnk.nakOutOfOrder := true }

/-- The transmitter begins the first frame due; where the same event lets the Link Controller take a report, after that take, whose
DATA frame is then due too (R165, R185). -/
def State.transmitAfterTakes (s : State) : State := if s.canReport then s else s.transmit

/-- A valid DATA frame (Table 10–2). -/
def State.takeData (s : State) (g : List Byte) : State :=
  if s.lnk.state = .up then
    ((s.acknowledge (frameAck g)).sortData (frameSeq g) (frameMessage g)).transmitAfterTakes
  else s

/-- A valid ACK frame (Table 10–2). -/
def State.takeAck (s : State) (g : List Byte) : State :=
  if s.lnk.state = .up then (s.acknowledge (frameAck g)).transmit else s

/-- A NAK's value as an acknowledgement, then the go-back when the oldest frame has that sequence (R183). -/
def State.negative (s : State) (n : SeqNum) : State :=
  let t := s.acknowledge n
  match t.lnk.replay with
  | [] => t
  | x :: _ => if x.seq = n then t.goBack n else t

/-- A valid NAK frame (Table 10–2). -/
def State.takeNak (s : State) (g : List Byte) : State :=
  if s.lnk.state = .up then (s.negative (frameAck g)).transmit else s

/-- The frames of the replay buffer numbered from `n` on, in their order (R186). -/
def renumber : Nat → List ReplayFrame → List ReplayFrame
  | _, [] => []
  | n, x :: rest => { x with seq := BitVec.ofNat 4 n } :: renumber (n + 1) rest

/-- The frame in transmission when a RESYNC is taken is finished with its old number; it is no frame of the buffer any more. -/
def TxKind.orphan : TxKind → TxKind
  | .data _ => .data none
  | .resyncReply => .resyncReply
  | .resync => .resync
  | .nak => .nak
  | .ack => .ack

/-- A host RESYNC is taken (R186). A NAK that an out-of-order frame made due goes with the NAK state: log entry 35. The
RESYNC-REPLY due is another than one on TXD: DESIGN CHOICE, log entry 38. -/
def Link.resynchronise (k : Link) : Link :=
  { k with
    state := .up
    rxExpected := 0#4
    txNext := BitVec.ofNat 4 k.replay.length
    replay := renumber 0 k.replay
    resendPoint := if k.replay = [] then none else some 0#4
    ackOwed := .none
    nak := .clear
    nakOutOfOrder := false
    timer := none
    retry := 0
    announce := none
    counters := { k.counters with resync := bump k.counters.resync }
    resyncReplyDue := true
    resyncDue := false
    tx := k.tx.map fun f => { f with kind := f.kind.orphan } }

/-- A valid RESYNC frame, in any link state (R186). With TXD idle the RESYNC-REPLY begins before the takes and admissions that the
return to UP lets in, and its ANNOUNCE carries the report serial and the request count before them: DESIGN CHOICE, log entry 36. With a
RESYNC-REPLY on TXD another is sent after it: DESIGN CHOICE, log entry 38. -/
def State.takeResync (s : State) : State := { s with lnk := s.lnk.resynchronise }.transmit

/-- A frame whose CRC does not agree (R175). -/
def State.takeDamaged (s : State) : State :=
  let k : Link := { s.lnk with counters.crc := bump s.lnk.counters.crc }
  { s with lnk := k.damaged }.transmit

/-- The partial frame is discarded for a gap (R174). -/
def State.takeGap (s : State) : State :=
  match s.lnk.receiver with
  | .hunting => s
  | .inside _ since =>
    let t := s.reach (since + Config.ms 2)
    let k : Link := { t.lnk with receiver := .hunting, counters.gap := bump t.lnk.counters.gap }
    { t with lnk := k.damaged }.transmit

/-! ## Sending (R179, R182, R184, R187) -/

/-- The Link Controller takes the head report into a new DATA frame at the tail of the replay buffer (R165, R182). -/
def State.takeReport (s : State) : State :=
  if s.canReport then
    match s.rpt.queue with
    | [] => s
    | r :: rest =>
      let f : ReplayFrame := { seq := s.lnk.txNext, report := r, sent := .notBegun }
      { s with
        rpt.queue := rest
        lnk.replay := s.lnk.replay ++ [f]
        lnk.txNext := s.lnk.txNext + 1 }.transmit
  else s

/-- An acknowledgement owed for 1 ms becomes requested (R179). -/
def State.requestAck (s : State) : State :=
  match s.lnk.ackOwed with
  | .since t => { (s.reach (t + Config.ms 1)) with lnk.ackOwed := .requested }.transmit
  | .none | .requested => s

/-- The least time of a frame on the line, in ticks: 10 bits for each byte at the rate in force (R173). -/
def frameTicks (baud : BitVec 2) (bytes : List Byte) : Nat :=
  bytes.length * 10 * (1000000 * Config.ticksPerUs) / Config.baudRate baud

/-- The level of TXD in this tick: the bit of the frame in transmission that the clock has reached at the rate in force, and high when
the line is idle (R172, R173). -/
def State.txd (s : State) : Bool :=
  match s.lnk.tx with
  | none => true
  | some f =>
    (frameLevels f.bytes).getD ((s.now - f.begun) * Config.baudRate s.lnk.baud / (1000000 * Config.ticksPerUs)) true

/-- What the end of a frame's transmission does before the next begins: a RESYNC-REPLY sent sets the reset cause to NONE (R186); a
DATA frame of the buffer has ended its transmission, and a stopped timer starts in UP (R182, R186). -/
def State.frameSent (s : State) (kind : TxKind) : State :=
  match kind with
  | .resyncReply => { s with lnk.cause := .none }
  | .data (some serial) =>
    let t := { s with lnk.replay := markSent serial (fun _ => .ended) s.lnk.replay }
    if s.lnk.state = .up ∧ s.lnk.timer = none ∧ s.lnk.replay.any (fun x => decide (x.report.serial = serial)) = true then
      t.startTimer
    else t
  | .data none | .resync | .nak | .ack => s

/-- The frame in transmission ends, and the next due frame begins (R185). -/
def State.endFrame (s : State) : State :=
  match s.lnk.tx with
  | none => s
  | some f =>
    (({ (s.reach (f.begun + frameTicks s.lnk.baud f.bytes)) with lnk.tx := none }).frameSent f.kind).transmit

/-- The link starts announcing: the announce timer starts and a RESYNC frame is due at once (R187). -/
def State.startAnnouncing (s : State) : State :=
  { s with lnk.announce := some (s.now + Config.ms 100), lnk.resyncDue := true }.transmit

/-- The retransmission timer expires in UP (R184): the retry count rises, and below 8 a go-back begins from the oldest frame; at 8
the link stalls. -/
def State.expireRetransmission (s : State) : State :=
  match s.lnk.timer with
  | none => s
  | some d =>
    if s.lnk.state = .up then
      let t := { (s.reach d) with lnk.retry := s.lnk.retry + 1 }
      if t.lnk.retry < Config.retryLimit then
        match t.lnk.replay with
        | [] => { t with lnk.timer := none }
        | x :: _ => (t.goBack x.seq).transmit
      else { t with lnk.state := .stalled, lnk.timer := none }.startAnnouncing
    else s

/-- A period of the announce timer completes in START or STALLED (R187). -/
def State.expireAnnounce (s : State) : State :=
  match s.lnk.announce with
  | none => s
  | some d => if s.lnk.state = .up then s else (s.reach d).startAnnouncing

end Sys2Proof.Machine
end

