-- ==== Sys2Proof/Machine/Reset.lean ====
section
/-! DEFINITION. The resets with work in flight (Section 6.5): abandoning an access, putting every block in its reset state, the
holding state and its end. -/

namespace Sys2Proof.Machine

/-- The scratch write in progress, whose outcome a reset leaves open (R64). -/
def State.scratchWriteInProgress (s : State) : Option Access :=
  match s.bus.access with
  | none => none
  | some a =>
    if (s.window a.window).profile.target = .scratch ∧ a.kind = .write ∧
        scratchInside (s.window a.window).profile.width a.addr = true then some a
    else none

/-- The scratch memory that a pin reset or RESET DEVICE leaves (R64, R120): as it was, but for the unit of an abandoned write,
which is wholly replaced or unchanged by a free value. -/
def State.keptScratch (s : State) : List Host.Cell :=
  match s.scratchWriteInProgress with
  | none => s.bus.scratch
  | some a =>
    if Config.abandonedWriteTaken s.freed then
      scratchWriteUnit s.bus.scratch (s.window a.window).profile.width a.addr a.value
    else s.bus.scratch

/-- The pin read in progress, which a reset abandons without a sample (R120). -/
def State.pinReadInProgress (s : State) : Option Access :=
  match s.bus.access with
  | none => none
  | some a => if (s.window a.window).profile.target = .pins ∧ a.kind = .read then some a else none

/-- The level that the weak hold keeps on D when the part stops driving now (R90, R120): what it drives, else what is held; free
while the bus is released, and on the lines of a read in progress, which a peripheral may have driven (log entry 18). -/
def State.dataLevels (s : State) : Word :=
  let p := s.enginePins 0#16 []
  let held := p.weakHold.getD (Config.heldData s.freed)
  let left : Word := match s.pinReadInProgress with
    | some a => driveData (s.window a.window).profile.width held (Config.heldData s.freed)
    | none => held
  wordOf (p.dLow.getD (left.setWidth 8)) (p.dHigh.getD ((left >>> 8).setWidth 8))

/-- The pins that the engine leaves in the tick in which a reset is taken (R104, R120): the strobes and the chip select of an access in
progress are at their inactive levels and D is released; while the bus is released its outputs still float; BGNT is deasserted. -/
def State.abandonedPins (s : State) : Pins :=
  match s.bus.release with
  | some r => if r.at_ < s.now then floatingPins false else s.restPins
  | none => { s.restPins with weakHold := some s.dataLevels }

/-- The pins in the tick in which a reset is taken. A second reset in the tick of a first leaves them as the first put them: every pin
takes its reset level in the tick after (R120, R122). -/
def State.resetTickPins (s : State) : Pins :=
  match s.bus.resetPins with
  | some (t, p) => if s.now ≤ t then p else s.abandonedPins
  | none => s.abandonedPins

/-- The counter of free values after a reset: the next index where a scratch write or a pin read is abandoned or the bus is
released. -/
def State.drawnAtReset (s : State) : Nat :=
  if s.scratchWriteInProgress.isSome || s.pinReadInProgress.isSome || s.bus.release.isSome then s.freed + 1 else s.freed

/-- Every block in its reset state (R121), with the given scratch memory and levels of D: the inputs, the clock, the rate and the
queue of commands stand. -/
def State.resetBlocks (s : State) (cause : ResetCause) (scratch : List Host.Cell) (data : Word) (holding : Bool) : State where
  win := Vector.replicate 6 Window.reset
  epoch := 0#16
  sch := Scheduler.reset
  bus := { BusEngine.reset scratch with dHeld := data, resetPins := some (s.now, s.resetTickPins) }
  atn := s.atn.map fun x => Line.reset x.input
  dsp := Dispatcher.reset
  rpt := Reporter.reset
  lnk := Link.reset cause s.lnk.baud
  breq := s.breq
  holding := holding
  now := s.now
  freed := s.drawnAtReset
  pending := s.pending

/-- RESET DEVICE of the right length (R121, R122): cause SOFT and announcing at once, or the holding state and its cause when RST
is still asserted. -/
def State.softReset (s : State) : State :=
  if s.holding then s.resetBlocks s.lnk.cause s.keptScratch s.dataLevels true
  else (s.resetBlocks .soft s.keptScratch s.dataLevels false).startAnnouncing

/-- Assertion of RST (R122): the holding state with cause PIN, scratch memory kept. -/
def State.assertReset (s : State) : State := s.resetBlocks .pin s.keptScratch s.dataLevels true

/-- Power-on (R122): the holding state with cause POWER, scratch memory all zeros (R64). -/
def State.powerOn (s : State) : State := s.resetBlocks .power [] 0#16 true

/-- The part leaves the holding state (R122): the straps give the rate (R173), the first samples the filtered levels (R126), and
the link starts announcing in START (R187). -/
def State.releaseReset (s : State) (baud : BitVec 2) (atn : BitVec 8) : State :=
  if s.holding then
    ({ s with
        holding := false
        lnk.baud := baud
        atn := Vector.ofFn fun l : Fin 8 => { s.line l with level := atn.getLsbD l.val, pendingChange := none } }).startAnnouncing
  else s

end Sys2Proof.Machine
end

