-- ==== Sys2Proof/Machine/Requests.lean ====
section
/-! DEFINITION. The requests (Chapters 3, 4, 5, 6, 7 and 8): for each kind its checks in their order, what it does when every check
passes, and its reply. Each takes the message that the Dispatcher has just removed from the Intake Queue. -/

namespace Sys2Proof.Machine

/-! ## Kinds (Table 11–2) -/

/-- The seventeen request kinds. -/
inductive RequestKind
  | submit
  | cancel
  | flush
  | configureWindow
  | clearFault
  | setupAttention
  | acknowledgeAttention
  | hold
  | resume
  | setSharing
  | setLink
  | resetDevice
  | queryDevice
  | queryWindow
  | queryTransaction
  | queryAttention
  | queryLink
deriving DecidableEq, Repr

/-- The kind code (Table 11–2). -/
def RequestKind.code : RequestKind → Byte
  | .submit => 0x01#8
  | .cancel => 0x02#8
  | .flush => 0x03#8
  | .configureWindow => 0x04#8
  | .clearFault => 0x05#8
  | .setupAttention => 0x06#8
  | .acknowledgeAttention => 0x07#8
  | .hold => 0x08#8
  | .resume => 0x09#8
  | .setSharing => 0x0A#8
  | .setLink => 0x0B#8
  | .resetDevice => 0x0C#8
  | .queryDevice => 0x0D#8
  | .queryWindow => 0x0E#8
  | .queryTransaction => 0x0F#8
  | .queryAttention => 0x10#8
  | .queryLink => 0x11#8

/-- Every request kind. -/
def allKinds : List RequestKind :=
  [.submit, .cancel, .flush, .configureWindow, .clearFault, .setupAttention, .acknowledgeAttention, .hold, .resume, .setSharing,
    .setLink, .resetDevice, .queryDevice, .queryWindow, .queryTransaction, .queryAttention, .queryLink]

/-- The kind that a code names, or none (R149). -/
def kindNamed (code : Byte) : Option RequestKind := allKinds.find? fun k => decide (k.code = code)

/-- The fixed length of a kind's message; for SUBMIT the length of its fixed part (Table 11–2). -/
def RequestKind.length : RequestKind → Nat
  | .submit => 7
  | .cancel | .clearFault | .queryTransaction => 3
  | .flush | .acknowledgeAttention | .setLink | .queryWindow | .queryLink => 2
  | .configureWindow => 22
  | .setupAttention => 6
  | .setSharing => 4
  | .hold | .resume | .resetDevice | .queryDevice | .queryAttention => 1

/-- The format check of a kind (R149): the fixed length, or for SUBMIT at least its fixed part. -/
def RequestKind.formatOk (k : RequestKind) (m : Message) : Bool :=
  match k with
  | .submit => decide (k.length ≤ m.length)
  | _ => decide (m.length = k.length)

/-- The field that names a request's object, as received (R148): a tag, a window or a line; empty for kinds that name none. -/
def RequestKind.object (k : RequestKind) (m : Message) : List Byte :=
  match k with
  | .submit | .cancel | .queryTransaction => [byteAt m 1, byteAt m 2]
  | .flush | .configureWindow | .clearFault | .queryWindow | .setupAttention | .acknowledgeAttention => [byteAt m 1]
  | .hold | .resume | .setSharing | .setLink | .resetDevice | .queryDevice | .queryAttention | .queryLink => []

/-- A refusal after the format check: its body is the object field as received (R148). -/
def State.refuse (s : State) (k : RequestKind) (m : Message) (code : ResultCode) : State :=
  s.reply k.code code (k.object m)

/-- An acceptance with its body (Table 11–7). -/
def State.accept (s : State) (k : RequestKind) (body : List Byte) : State := s.reply k.code .accepted body

/-- The refusal of the format check: an empty body (R148, R149). -/
def State.refuseFormat (s : State) (m : Message) : State := s.reply (kindOf m) .badFormat []

/-! ## SUBMIT (R150, R1, R16, R17) -/

/-- What a SUBMIT that passes its checks asks for. -/
structure Submission where
  tag : Word
  window : Fin 6
  cls : TxClass
  barrier : Bool
  ops : List Op
deriving DecidableEq, Repr

/-- A live record carries the tag (R2). -/
def State.tagLive (s : State) (tag : Word) : Bool := s.live.any fun r => decide (r.tag = tag)

/-- The pool is full for this SUBMIT (R10, R22): no record is free, or a barrier finds the epoch reach above 94. -/
def State.poolFull (s : State) (barrier : Bool) : Bool :=
  decide (Config.poolRecords ≤ s.live.length) || (barrier && decide (Config.barrierReach < s.epochReach))

/-- Checks 7 to 12 of R150, for a window and operations that have passed checks 3 to 6. -/
def State.checkRoom (s : State) (x : Submission) : Option ResultCode :=
  let p := (s.window x.window).profile
  if x.ops.all (Op.fitsWidth p.width) = false then some .badValue
  else if x.ops.all (Op.fitsAddress p.addressBits) = false then some .addrRange
  else if Config.resultLimit < resultSize p.width x.ops then some .resultTooLarge
  else if s.tagLive x.tag then some .dupTag
  else if s.poolFull x.barrier then some .poolFull
  else if p.queueLimit ≤ (s.queue x.window).length then some .queueFull
  else none

/-- Checks 2 to 12 of a SUBMIT in their order (R150): the submission, or the code of the first check that fails. -/
def State.checkSubmit (s : State) (m : Message) : Except ResultCode Submission :=
  if wordAt m 1 = 0#16 then .error .badTag
  else match windowOf (byteAt m 3) with
    | none => .error .badWindow
    | some w =>
      match (s.window w).state with
      | .disabled => .error .windowDisabled
      | .faulted => .error .windowFaulted
      | .enabled =>
        let n := (byteAt m 6).toNat
        match (if 1 ≤ n ∧ n ≤ 16 then parseOps n (m.drop 7) else none) with
        | none => .error .badOperation
        | some ops =>
          match classOf (byteAt m 4), yesNo (byteAt m 5) with
          | some cls, some barrier =>
            let x : Submission := { tag := wordAt m 1, window := w, cls := cls, barrier := barrier, ops := ops }
            match s.checkRoom x with
            | some code => .error code
            | none => .ok x
          | _, _ => .error .badValue

/-- The epoch a SUBMIT receives: the counter, or for a barrier the counter plus 1 (R20, R21). -/
def State.nextEpoch (s : State) (barrier : Bool) : Word := if barrier then s.epoch + 1 else s.epoch

/-- The record of an accepted SUBMIT (R1). -/
def State.newRecord (s : State) (x : Submission) : Record where
  tag := x.tag
  window := x.window
  cls := x.cls
  barrier := x.barrier
  epoch := s.nextEpoch x.barrier
  ops := x.ops
  state := .queued
  abort := none
  opIndex := 0
  unitIndex := 0
  attempts := 0
  wake := none
  data := []
  outcome := none
  opsCompleted := 0
  failIndex := none
  detail := 0
  acceptedCount := s.dsp.count

/-- The queue position of a new record (R16, R17): the tail for NORMAL, and for URGENT the place before the first QUEUED NORMAL
member of its own epoch, or the tail when there is none. -/
def queuePosition (q : List Record) (r : Record) : Nat :=
  match r.cls with
  | .normal => q.length
  | .urgent => q.findIdx fun x => decide (x.state = .queued) && decide (x.cls = .normal) && decide (x.epoch = r.epoch)

/-- Acceptance of a SUBMIT (R1, R21): the record joins its queue at its position, and a barrier advances the counter by 2. -/
def State.acceptSubmit (s : State) (x : Submission) : State :=
  let r := s.newRecord x
  let q := s.queue x.window
  let pos := queuePosition q r
  ({ (s.setQueue x.window (q.take pos ++ r :: q.drop pos)) with
      epoch := if x.barrier then s.epoch + 2 else s.epoch }).accept .submit
    (wordBytes x.tag ++ wordBytes r.epoch ++ [byteOf pos])

/-- SUBMIT (R150). -/
def State.submit (s : State) (m : Message) : State :=
  if RequestKind.submit.formatOk m then
    match s.checkSubmit m with
    | .error code => s.refuse .submit m code
    | .ok x => s.acceptSubmit x
  else s.refuseFormat m

/-! ## CANCEL (R108 to R112) -/

/-- The bus-side record with a tag, and its window. -/
def State.findBusSide (s : State) (tag : Word) : Option (Fin 6 × Record) :=
  allWindows.findSome? fun w => ((s.queue w).find? fun r => decide (r.tag = tag)).map fun r => (w, r)

/-- A bus-side record that is not RUNNING ends CANCELLED in this event: its wake condition is removed, it leaves its queue and
joins the backlog (R109, R110). -/
def State.cancelNow (s : State) (w : Fin 6) (r : Record) (cause : CancelCause) : State :=
  let t := s.dropWake r
  (t.setQueue w ((t.queue w).filter fun x => decide (x.tag ≠ r.tag))).joinBacklog [r.endCancelled cause]

/-- The RUNNING record is marked with an abort request (R105, R111), and settled at once when no access is in progress (R107). -/
def State.requestAbort (s : State) (w : Fin 6) (r : Record) (cause : CancelCause) : State :=
  (s.setQueue w ((s.queue w).map fun x => if x.tag = r.tag then { x with abort := some cause } else x)).settleWaiting

/-- The disposition byte of a CANCEL's reply (Table 11–7). -/
def dispositionOf (r : Record) : Byte :=
  match r.state with
  | .queued | .completing => 0#8
  | .ready | .parked => 1#8
  | .running => if r.abort = none then 2#8 else 3#8

/-- What a CANCEL does to the bus-side record it finds (R109 to R111). -/
def State.cancelFound (s : State) (w : Fin 6) (r : Record) : State :=
  match r.state with
  | .running => if r.abort = none then s.requestAbort w r .byCancel else s
  | .queued | .ready | .parked | .completing => s.cancelNow w r .byCancel

/-- CANCEL (R108). -/
def State.cancel (s : State) (m : Message) : State :=
  if RequestKind.cancel.formatOk m then
    let tag := wordAt m 1
    if tag = 0#16 then s.refuse .cancel m .badTag
    else match s.findBusSide tag with
      | some (w, r) => (s.cancelFound w r).accept .cancel (wordBytes tag ++ [dispositionOf r])
      | none =>
        if s.rpt.backlog.any (fun r => decide (r.tag = tag)) then s.refuse .cancel m .tooLate
        else s.refuse .cancel m .unknownTag
  else s.refuseFormat m

/-! ## FLUSH (R113, R114) -/

/-- What a FLUSH leaves of a queue: the RUNNING head alone, marked, while its access is in progress; else nothing. `busy` says that
an access is in progress. -/
def flushKept (q : List Record) (busy : Bool) : List Record :=
  match q with
  | [] => []
  | r :: _ =>
    if r.state = .running ∧ busy = true then [{ r with abort := some (r.abort.getD .byFlush) }] else []

/-- The records a FLUSH takes to COMPLETING, in queue order (R15, R113). A RUNNING head with no access in progress is settled in
this event with the cause it is marked with (R107). Log entry 10. -/
def flushRemoved (q : List Record) (busy : Bool) : List Record :=
  match q with
  | [] => []
  | r :: rest =>
    let others := rest.map fun x => x.endCancelled .byFlush
    if r.state = .running then
      if busy then others
      else { r with abort := some (r.abort.getD .byFlush) }.endCancelled (r.abort.getD .byFlush) :: others
    else r.endCancelled .byFlush :: others

/-- What a FLUSH does to window `w` (R113). -/
def State.flushWindow (s : State) (w : Fin 6) : State :=
  let q := s.queue w
  let busy := s.bus.access.isSome
  let t := match q with
    | [] => s
    | r :: _ => s.dropWake r
  let u := (t.setQueue w (flushKept q busy)).joinBacklog (flushRemoved q busy)
  if flushKept q busy = [] then u.dropGrant w else u

/-- FLUSH (R113, R114). -/
def State.flush (s : State) (m : Message) : State :=
  if RequestKind.flush.formatOk m then
    match windowOf (byteAt m 1) with
    | none => s.refuse .flush m .badWindow
    | some w =>
      let q := s.queue w
      let busy := s.bus.access.isSome
      (s.flushWindow w).accept .flush
        [byteAt m 1, byteOf (flushRemoved q busy).length, flagByte (decide (flushKept q busy ≠ []))]
  else s.refuseFormat m

/-! ## CONFIGURE WINDOW (R58 to R60) -/

/-- The recovery timer of window `w` after its profile is replaced (R60): a change of target ends the constraint, a change of CS
polarity at a driven pin starts it. -/
def State.configuredRecovery (s : State) (w : Fin 6) (p : Profile) : Option Nat :=
  let old := (s.window w).profile
  let moved := decide (old.csPolarity ≠ p.csPolarity) && decide (s.bus.ownership = .owned)
  match old.target, p.target with
  | .pins, .scratch => none
  | .scratch, .pins => if moved then some s.now else none
  | .pins, .pins | .scratch, .scratch => if moved then some s.now else s.bus.recovery[w]

/-- An accepted CONFIGURE WINDOW (R60). -/
def State.configure (s : State) (w : Fin 6) (p : Profile) (enable : Bool) : State :=
  let recovery := s.bus.recovery.set w.val (s.configuredRecovery w p) w.isLt
  { (s.setWindow w { s.window w with profile := p, state := if enable then .enabled else .disabled }) with
    bus.recovery := recovery }

/-- CONFIGURE WINDOW (R58). -/
def State.configureWindow (s : State) (m : Message) : State :=
  if RequestKind.configureWindow.formatOk m then
    match windowOf (byteAt m 1) with
    | none => s.refuse .configureWindow m .badWindow
    | some w =>
      match profileAt m 2, yesNo (byteAt m 21) with
      | some p, some enable =>
        if p.legal = false then s.refuse .configureWindow m .badValue
        else if s.queue w ≠ [] then s.refuse .configureWindow m .busy
        else (s.configure w p enable).accept .configureWindow [byteAt m 1, flagByte enable]
      | _, _ => s.refuse .configureWindow m .badValue
  else s.refuseFormat m

/-! ## CLEAR FAULT (R117, R118) -/

/-- An accepted CLEAR FAULT: the window is ENABLED; with DISCARD its members first enter COMPLETING in queue order. -/
def State.clearWindow (s : State) (w : Fin 6) (discard : Bool) : State :=
  if discard then
    (s.setWindow w { s.window w with state := .enabled, queue := [] }).joinBacklog
      ((s.queue w).map fun r => r.endCancelled .byFaultDiscard)
  else s.setWindow w { s.window w with state := .enabled }

/-- CLEAR FAULT (R117). -/
def State.clearFault (s : State) (m : Message) : State :=
  if RequestKind.clearFault.formatOk m then
    match windowOf (byteAt m 1) with
    | none => s.refuse .clearFault m .badWindow
    | some w =>
      match discardOf (byteAt m 2) with
      | none => s.refuse .clearFault m .badValue
      | some discard =>
        if (s.window w).state ≠ .faulted then s.refuse .clearFault m .notFaulted
        else (s.clearWindow w discard).accept .clearFault
          [byteAt m 1, if discard then byteOf (s.queue w).length else 0#8]
  else s.refuseFormat m

/-! ## SETUP ATTENTION and ACKNOWLEDGE ATTENTION (R139 to R141) -/

/-- SETUP ATTENTION (R140). -/
def State.setupAttention (s : State) (m : Message) : State :=
  if RequestKind.setupAttention.formatOk m then
    match lineOf (byteAt m 1) with
    | none => s.refuse .setupAttention m .badLine
    | some l =>
      match lineModeOf (byteAt m 2), within 0 3 (byteAt m 3).toNat, yesNo (byteAt m 5) with
      | some mode, some priority, some report =>
        if (s.line l).waiters ≠ [] then s.refuse .setupAttention m .busy
        else (s.setupLine l mode priority (byteAt m 4).toNat report).accept .setupAttention [byteAt m 1]
      | _, _, _ => s.refuse .setupAttention m .badValue
  else s.refuseFormat m

/-- ACKNOWLEDGE ATTENTION (R139). -/
def State.acknowledgeAttention (s : State) (m : Message) : State :=
  if RequestKind.acknowledgeAttention.formatOk m then
    match lineOf (byteAt m 1) with
    | none => s.refuse .acknowledgeAttention m .badLine
    | some l =>
      if (s.line l).outstanding then
        (s.setLine l { s.line l with outstanding := false }).accept .acknowledgeAttention [byteAt m 1]
      else s.refuse .acknowledgeAttention m .notOutstanding
  else s.refuseFormat m

/-! ## HOLD and RESUME (R81 to R84) -/

/-- A HOLD that finds the flag clear (R81, R82): the flag is set; with no access in progress a RUNNING transaction is settled at its
boundary and the HELD reply is formed; else the Dispatcher waits for the access. -/
def State.holdClear (s : State) : State :=
  let t := { s with sch.hold := true }
  if s.bus.access = none then t.settleWaiting.reply RequestKind.hold.code .held [flagByte false]
  else { t with dsp.holdWait := some t.dsp.count }

/-- HOLD (R81, R83). -/
def State.holdRequest (s : State) (m : Message) : State :=
  if RequestKind.hold.formatOk m then
    if s.sch.hold then s.accept .hold [flagByte true] else s.holdClear
  else s.refuseFormat m

/-- RESUME (R84). -/
def State.resumeRequest (s : State) (m : Message) : State :=
  if RequestKind.resume.formatOk m then
    if s.sch.hold then { s with sch.hold := false }.accept .resume [] else s.refuse .resume m .notHeld
  else s.refuseFormat m

/-! ## SET SHARING, SET LINK, RESET DEVICE (R100, R158, R121) -/

/-- SET SHARING (R100): an accepted one replaces both settings, and answers a BREQ asserted at that moment. -/
def State.setSharing (s : State) (m : Message) : State :=
  if RequestKind.setSharing.formatOk m then
    match yesNo (byteAt m 1) with
    | none => s.refuse .setSharing m .badValue
    | some enable =>
      if s.bus.ownership = .owned then
        { s with bus.shareEnable := enable, bus.shareLimit := (wordAt m 2).toNat }.answerRequest.accept .setSharing
          (flagByte enable :: wordBytes (wordAt m 2))
      else s.refuse .setSharing m .busy
  else s.refuseFormat m

/-- SET LINK (R158). -/
def State.setLink (s : State) (m : Message) : State :=
  if RequestKind.setLink.formatOk m then
    match within 5 200 (byteAt m 1).toNat with
    | none => s.refuse .setLink m .badValue
    | some t => { s with lnk.timeout := t }.accept .setLink [byteOf t]
  else s.refuseFormat m

/-- RESET DEVICE (R121): of the right length it resets the part and forms no reply. -/
def State.resetDevice (s : State) (m : Message) : State :=
  if RequestKind.resetDevice.formatOk m then s.softReset else s.refuseFormat m

/-! ## Queries (R153 to R157) -/

/-- The body of a QUERY DEVICE reply (R153). -/
def State.deviceBody (s : State) : List Byte :=
  wordBytes Config.partCode
    ++ [Config.revision, byteOf s.freeRecords, byteOf s.rpt.queue.length, byteOf s.rpt.backlog.length, flagByte s.sch.hold,
        flagByte (decide (s.bus.ownership = .released)), flagByte s.bus.shareEnable]
    ++ natBytes s.bus.shareLimit ++ wordBytes s.epoch

/-- QUERY DEVICE (R153). -/
def State.queryDevice (s : State) (m : Message) : State :=
  if RequestKind.queryDevice.formatOk m then s.accept .queryDevice s.deviceBody else s.refuseFormat m

/-- The body of a QUERY WINDOW reply (R154). -/
def State.windowBody (s : State) (w : Fin 6) : List Byte :=
  [(s.window w).state.byte] ++ (s.window w).profile.bytes ++ [byteOf (s.queue w).length]
    ++ match s.head w with
      | none => wordBytes 0#16 ++ [0#8]
      | some r => wordBytes r.tag ++ [r.state.byte]

/-- QUERY WINDOW (R154). -/
def State.queryWindow (s : State) (m : Message) : State :=
  if RequestKind.queryWindow.formatOk m then
    match windowOf (byteAt m 1) with
    | none => s.refuse .queryWindow m .badWindow
    | some w => s.accept .queryWindow (s.windowBody w)
  else s.refuseFormat m

/-- The body of a QUERY TRANSACTION reply (R155): the operation index, or for a COMPLETING record its operations completed. -/
def Record.queryBody (r : Record) : List Byte :=
  [byteOf r.window.val, r.state.byte, byteOf (if r.state = .completing then r.opsCompleted else r.opIndex),
    flagByte r.abort.isSome]

/-- QUERY TRANSACTION (R155). -/
def State.queryTransaction (s : State) (m : Message) : State :=
  if RequestKind.queryTransaction.formatOk m then
    if wordAt m 1 = 0#16 then s.refuse .queryTransaction m .badTag
    else match s.live.find? fun r => decide (r.tag = wordAt m 1) with
      | none => s.refuse .queryTransaction m .unknownTag
      | some r => s.accept .queryTransaction r.queryBody
  else s.refuseFormat m

/-- The 11-byte entry of a line (R156, Table 11–7). -/
def Line.entryBytes (x : Line) : List Byte :=
  [x.mode.byte, byteOf x.priority, byteOf x.filter, flagByte x.report, flagByte x.level, byteOf x.count, flagByte x.lost,
    x.lastEdge.byte, byteOf (x.stamp.getD 0), flagByte x.outstanding, byteOf x.waiters.length]

/-- QUERY ATTENTION (R156). -/
def State.queryAttention (s : State) (m : Message) : State :=
  if RequestKind.queryAttention.formatOk m then
    s.accept .queryAttention (allLines.flatMap fun l => (s.line l).entryBytes)
  else s.refuseFormat m

/-- The body of a QUERY LINK reply (R157). -/
def Link.queryBody (k : Link) : List Byte :=
  natBytes k.counters.crc ++ natBytes k.counters.gap ++ natBytes k.counters.duplicate ++ natBytes k.counters.outOfOrder
    ++ natBytes k.counters.intakeFull ++ natBytes k.counters.retransmission ++ natBytes k.counters.resync ++ [byteOf k.timeout]

/-- QUERY LINK (R157): with the clear flag every counter becomes 0 after it has been read. -/
def State.queryLink (s : State) (m : Message) : State :=
  if RequestKind.queryLink.formatOk m then
    match yesNo (byteAt m 1) with
    | none => s.refuse .queryLink m .badValue
    | some clear =>
      { s with lnk.counters := if clear then Counters.zero else s.lnk.counters }.accept .queryLink s.lnk.queryBody
  else s.refuseFormat m

/-! ## Taking a request (R144, R145) -/

/-- The Dispatcher removes the message from the head and raises the request count. -/
def State.pop (s : State) (rest : List Message) : State :=
  { s with lnk.intake := rest, dsp.count := s.dsp.count + 1 }

/-- The message is carried out by its kind; an unknown kind is refused BAD_FORMAT (R149). -/
def State.carryOut (s : State) (m : Message) : State :=
  match kindNamed (kindOf m) with
  | some .submit => s.submit m
  | some .cancel => s.cancel m
  | some .flush => s.flush m
  | some .configureWindow => s.configureWindow m
  | some .clearFault => s.clearFault m
  | some .setupAttention => s.setupAttention m
  | some .acknowledgeAttention => s.acknowledgeAttention m
  | some .hold => s.holdRequest m
  | some .resume => s.resumeRequest m
  | some .setSharing => s.setSharing m
  | some .setLink => s.setLink m
  | some .resetDevice => s.resetDevice m
  | some .queryDevice => s.queryDevice m
  | some .queryWindow => s.queryWindow m
  | some .queryTransaction => s.queryTransaction m
  | some .queryAttention => s.queryAttention m
  | some .queryLink => s.queryLink m
  | none => s.refuseFormat m

/-- The Dispatcher takes the head of the Intake Queue when it is IDLE and the queue is not empty (R144). -/
def State.takeRequest (s : State) : State :=
  match s.lnk.intake with
  | [] => s
  | m :: rest => if s.dispatcherIdle then (s.pop rest).carryOut m else s

/-- The Dispatcher takes the head of the Intake Queue when that is a message of the given kind (none: of no kind). -/
def State.takeKind (s : State) (k : Option RequestKind) (body : State → Message → State) : State :=
  match s.lnk.intake with
  | [] => s
  | m :: rest => if s.dispatcherIdle && decide (kindNamed (kindOf m) = k) then body (s.pop rest) m else s

end Sys2Proof.Machine
end

