-- ==== Sys2Proof/Machine/Due.lean ====
section
/-! DEFINITION. What is due inside the event of an earlier step: the check of a gathered frame (R174), the Dispatcher's taking of a
request (R144, R169, R177), an admission (R167) and the taking of a report (R165); and what is due before the next event of the
outside: the recognition of a change whose time is over before the moment of that event (R128) and the end of a release whose BREQ was
withdrawn (R101). All but the last are steps of their own in the table. Log entries 1, 21. -/

namespace Sys2Proof.Machine

/-! ## The gathered frame (R175) -/

/-- The check of R175 gives a valid frame with this Control byte; the frame is handed on and leaves the receiver. -/
def State.takeFrame (s : State) (wanted : List Byte → Bool) (effect : State → List Byte → State) : State :=
  match s.lnk.gathered with
  | none => s
  | some g => if wanted g then effect { s with lnk.gathered := none } g else s

/-- The frame is valid and carries the Control byte. -/
def isControl (control : Byte) (g : List Byte) : Bool := frameValid g && decide (frameControl g = control)

/-- The frame is valid and its Control byte is not 0x01 to 0x05 (R175). -/
def isUnknownControl (g : List Byte) : Bool :=
  frameValid g && decide (frameControl g = 0#8 ∨ 5 < (frameControl g).toNat)

/-- A frame discarded without effect. -/
def discardFrame (s : State) (_g : List Byte) : State := s

/-- The gathered frame is checked and acted on by its Control byte (R175, Table 10–2). -/
def State.checkFrame (s : State) : State :=
  s.takeFrame (fun _ => true) fun t g =>
    if frameValid g = false then t.takeDamaged
    else if frameControl g = 0x01#8 then t.takeData g
    else if frameControl g = 0x02#8 then t.takeAck g
    else if frameControl g = 0x03#8 then t.takeNak g
    else if frameControl g = 0x04#8 then t.takeResync
    else t

/-! ## Steps that are due -/

/-- A step of the part itself that is due in the event under way. -/
inductive Due
  | frame
  | request
  | admission
  | report
  | change (l : Fin 8)
  | release
deriving DecidableEq, Repr

/-- The step that is due next before anything at the moment `t`: the gathered frame, then the Dispatcher, then the arbiter, then the Link
Controller; after them, what comes in the ticks that follow up to `t`: a change whose time is over by now, the end of a release, and a
change whose time is over before `t`. A release takes a tick to end, so a change whose time that tick ends comes before it. -/
def State.dueBy (s : State) (t : Nat) : Option Due :=
  if s.lnk.gathered.isSome then some .frame
  else if s.canTake then some .request
  else if s.canAdmit then some .admission
  else if s.canReport then some .report
  else match s.dueLine s.now with
    | some l => some (.change l)
    | none =>
      if s.releaseOver then some (match s.dueLine (s.now + 1) with | some l => .change l | none => .release)
      else (s.dueLine t).map .change

/-- The step that is due next at the clock as it stands. -/
def State.due (s : State) : Option Due := s.dueBy s.now

/-- Take a step that is due. -/
def State.takeDue (s : State) (d : Due) : State :=
  match d with
  | .frame => s.checkFrame
  | .request => s.takeRequest
  | .admission => s.admitOne
  | .report => s.takeReport
  | .change l => s.recogniseLine l
  | .release => s.endRelease

/-- Take the steps that are due before the moment of what comes next, at most `n` of them. A step taken can change that moment. -/
def State.drainTo (moment : State → Nat) : Nat → State → State
  | 0, s => s
  | n + 1, s =>
    match s.dueBy (moment s) with
    | none => s
    | some d => State.drainTo moment n (s.takeDue d)

/-- A bound on the steps that can be due in one event: a frame and each waiting message can make a reply, records and lines due,
each source takes one admission, each report one taking, each line one recognition, and a release one end. -/
def State.dueBound (s : State) : Nat :=
  (if s.lnk.gathered.isSome then 26 else 0) + 25 * s.lnk.intake.length + 2 * s.live.length + s.rpt.queue.length + 30

/-- Every step that is due before an event with this effect has been taken. The moment of the event is where its effect carries the
clock: a change whose time is over before that moment is recognised first (R128). -/
def State.before (s : State) (effect : State → State) : State := State.drainTo (fun t => (effect t).now) s.dueBound s

/-- The event under way is over: every step that is due has been taken. -/
def State.drain (s : State) : State := s.before fun t => t

/-- Take the steps that are due before `d`, at most `n` of them. -/
def State.upToWithin (d : Due) : Nat → State → State
  | 0, s => s
  | n + 1, s =>
    match s.dueBy (s.takeDue d).now with
    | none => s
    | some e => if e = d then s else State.upToWithin d n (s.takeDue e)

/-- What is due before the step `d` has been taken: `d` is due next, or nothing is (R169: a reply's admission lets the Dispatcher
take the next message before another source is admitted). -/
def State.upTo (s : State) (d : Due) : State := State.upToWithin d s.dueBound s

/-- An event of the outside, or of a timer, is taken after what was due before it. While a reset's holding state lasts nothing but
another reset or its end is acted on (R122). -/
def State.event (s : State) (effect : State → State) : State :=
  if s.holding then s else effect (s.before effect)

/-- The clock reaches the next tick. -/
def State.nextTick (s : State) : State := s.reach (s.now + 1)

/-- One tick of BCLK passes while no command waits. Log entry 2. -/
def State.tick (s : State) : State := (s.before State.nextTick).nextTick

end Sys2Proof.Machine
end

