-- ==== Sys2Proof/Machine/RequestSteps.lean ====
section
/-! DEFINITION. The steps in which the Dispatcher takes a request: each acts when the Dispatcher is IDLE and the head of the Intake
Queue is a message of its kind (R144), and else finds nothing to act on. -/

namespace Sys2Proof.Machine

/-- SUBMIT is taken (R150). -/
def execSubmit (s : State) : Host.Outcome State Fault Refusal := .next (s.takeKind (some .submit) State.submit)

/-- CANCEL is taken (R108). -/
def execCancel (s : State) : Host.Outcome State Fault Refusal := .next (s.takeKind (some .cancel) State.cancel)

/-- FLUSH is taken (R113). -/
def execFlush (s : State) : Host.Outcome State Fault Refusal := .next (s.takeKind (some .flush) State.flush)

/-- CONFIGURE WINDOW is taken (R58). -/
def execConfigureWindow (s : State) : Host.Outcome State Fault Refusal := .next (s.takeKind (some .configureWindow) State.configureWindow)

/-- CLEAR FAULT is taken (R117). -/
def execClearFault (s : State) : Host.Outcome State Fault Refusal := .next (s.takeKind (some .clearFault) State.clearFault)

/-- SETUP ATTENTION is taken (R140, R141). -/
def execSetupAttention (s : State) : Host.Outcome State Fault Refusal := .next (s.takeKind (some .setupAttention) State.setupAttention)

/-- ACKNOWLEDGE ATTENTION is taken (R139). -/
def execAcknowledgeAttention (s : State) : Host.Outcome State Fault Refusal := .next (s.takeKind (some .acknowledgeAttention) State.acknowledgeAttention)

/-- HOLD is taken (R81 to R83). -/
def execHold (s : State) : Host.Outcome State Fault Refusal := .next (s.takeKind (some .hold) State.holdRequest)

/-- RESUME is taken (R84). -/
def execResume (s : State) : Host.Outcome State Fault Refusal := .next (s.takeKind (some .resume) State.resumeRequest)

/-- SET SHARING is taken (R100). -/
def execSetSharing (s : State) : Host.Outcome State Fault Refusal := .next (s.takeKind (some .setSharing) State.setSharing)

/-- SET LINK is taken (R158). -/
def execSetLink (s : State) : Host.Outcome State Fault Refusal := .next (s.takeKind (some .setLink) State.setLink)

/-- RESET DEVICE is taken (R121). -/
def execResetDevice (s : State) : Host.Outcome State Fault Refusal := .next (s.takeKind (some .resetDevice) State.resetDevice)

/-- QUERY DEVICE is taken (R153). -/
def execQueryDevice (s : State) : Host.Outcome State Fault Refusal := .next (s.takeKind (some .queryDevice) State.queryDevice)

/-- QUERY WINDOW is taken (R154). -/
def execQueryWindow (s : State) : Host.Outcome State Fault Refusal := .next (s.takeKind (some .queryWindow) State.queryWindow)

/-- QUERY TRANSACTION is taken (R155). -/
def execQueryTransaction (s : State) : Host.Outcome State Fault Refusal := .next (s.takeKind (some .queryTransaction) State.queryTransaction)

/-- QUERY ATTENTION is taken (R156). -/
def execQueryAttention (s : State) : Host.Outcome State Fault Refusal := .next (s.takeKind (some .queryAttention) State.queryAttention)

/-- QUERY LINK is taken (R157). -/
def execQueryLink (s : State) : Host.Outcome State Fault Refusal := .next (s.takeKind (some .queryLink) State.queryLink)

/-- A message of an unknown kind, or of no bytes, is taken: it is counted and refused BAD_FORMAT (R145, R149). -/
def execUnknownRequest (s : State) : Host.Outcome State Fault Refusal := .next (s.takeKind none State.refuseFormat)

end Sys2Proof.Machine
end

