-- ==== Sys2Proof/Machine/LinkSteps.lean ====
section
/-! DEFINITION. The steps of the Link Controller and the Reporter: bytes and frames of the host, timers of the link, the transmitter,
the taking and the admission of reports. -/

namespace Sys2Proof.Machine

/-! ## The gathered frame is checked (R175) -/

/-- A valid DATA frame (R176 to R178). -/
def execDataFrame (s : State) : Host.Outcome State Fault Refusal := .next (s.takeFrame (isControl 0x01#8) State.takeData)

/-- A valid ACK frame (R181). -/
def execAckFrame (s : State) : Host.Outcome State Fault Refusal := .next (s.takeFrame (isControl 0x02#8) State.takeAck)

/-- A valid NAK frame (R183). -/
def execNakFrame (s : State) : Host.Outcome State Fault Refusal := .next (s.takeFrame (isControl 0x03#8) State.takeNak)

/-- A valid RESYNC frame (R186). -/
def execResync (s : State) : Host.Outcome State Fault Refusal :=
  .next (s.takeFrame (isControl 0x04#8) fun t _ => t.takeResync)

/-- A valid RESYNC-REPLY frame from the host is discarded in every link state (Table 10–2). -/
def execHostResyncReply (s : State) : Host.Outcome State Fault Refusal := .next (s.takeFrame (isControl 0x05#8) discardFrame)

/-- A valid frame whose Control byte is not 0x01 to 0x05 is discarded without any effect on state or counters (R175). -/
def execUnknownControlFrame (s : State) : Host.Outcome State Fault Refusal :=
  .next (s.takeFrame isUnknownControl discardFrame)

/-- A gathered frame whose CRC does not agree is discarded and counted (R175, R180). -/
def execCrcError (s : State) : Host.Outcome State Fault Refusal :=
  .next (s.takeFrame (fun g => !frameValid g) fun t _ => t.takeDamaged)

/-! ## The receiver and the timers of the link -/

/-- One byte is received on RXD (R174). -/
def execByteReceived (b : Byte) (s : State) : Host.Outcome State Fault Refusal :=
  .next (s.event fun t => { t with lnk := t.lnk.receive b t.now })

/-- A gap of over 2 ms inside a frame (R174, R180). -/
def execGapError (s : State) : Host.Outcome State Fault Refusal := .next (s.event State.takeGap)

/-- An acknowledgement owed for 1 ms becomes requested (R179). -/
def execAckRequested (s : State) : Host.Outcome State Fault Refusal := .next (s.event State.requestAck)

/-- The end of a frame on TXD (R185). -/
def execFrameTransmitEnd (s : State) : Host.Outcome State Fault Refusal := .next (s.event State.endFrame)

/-- Expiry of the retransmission timer (R184). -/
def execRetransmissionTimeout (s : State) : Host.Outcome State Fault Refusal := .next (s.event State.expireRetransmission)

/-- A period of the announce timer completes (R187). -/
def execAnnounceTimer (s : State) : Host.Outcome State Fault Refusal := .next (s.event State.expireAnnounce)

/-! ## Reports -/

/-- The Link Controller takes the head report (R165, R182), after what is due before it. -/
def execReportTake (s : State) : Host.Outcome State Fault Refusal := .next (s.upTo .report).takeReport

/-- One admission (R167 to R169), after what is due before it. -/
def execReportAdmission (s : State) : Host.Outcome State Fault Refusal := .next (s.upTo .admission).admitOne

end Sys2Proof.Machine
end

