-- ==== Sys2Proof/Machine/BusSteps.lean ====
section
/-! DEFINITION. The steps of the Scheduler and the Bus Engine: the grant, accesses and their ends, park timers, and bus sharing. -/

namespace Sys2Proof.Machine

/-! ## The Scheduler -/

/-- The Scheduler grants the idle engine to the chosen candidate (R68, R69). -/
def execGrant (starts : Bool) (s : State) : Host.Outcome State Fault Refusal := .next (s.event fun t => t.makeChoice starts)

/-- The recovery time of window `w` ends (R92). -/
def execRecoveryEnd (w : Fin 6) (s : State) : Host.Outcome State Fault Refusal := .next (s.event fun t => t.endRecovery w)

/-- Expiry of a POLL park timer (R76). -/
def execPollTimerExpiry (w : Fin 6) (s : State) : Host.Outcome State Fault Refusal := .next (s.event fun t => t.expirePoll w)

/-- Expiry of a DELAY timer (R77). -/
def execDelayExpiry (w : Fin 6) (s : State) : Host.Outcome State Fault Refusal := .next (s.event fun t => t.expireDelay w)

/-- Expiry of a WAIT ATTENTION deadline (R39). -/
def execWaitTimeout (w : Fin 6) (s : State) : Host.Outcome State Fault Refusal := .next (s.event fun t => t.expireWait w)

/-! ## Accesses -/

/-- The access in progress of a window whose target is PINS. -/
def State.pinAccess (s : State) : Option Access :=
  match s.bus.access with
  | some a => if (s.window a.window).profile.target = .pins then some a else none
  | none => none

/-- The access in progress of a window whose target is SCRATCH. -/
def State.scratchAccess (s : State) : Option Access :=
  match s.bus.access with
  | some a => if (s.window a.window).profile.target = .scratch then some a else none
  | none => none

/-- The pin access in progress completes when these RDY samples end its strobe (R87, R94). -/
def State.finishPin (s : State) (data : Word) (rdy : List Bool) : State :=
  match s.pinAccess with
  | none => s
  | some a =>
    match strobeTicks (s.window a.window).profile rdy with
    | none => s
    | some n => s.completePin a n data

/-- The pin access in progress times out; only in ready mode WAIT can one (R96). -/
def State.finishTimeout (s : State) : State :=
  match s.pinAccess with
  | none => s
  | some a => if (s.window a.window).profile.readyMode = .wait then s.timeoutPin a else s

/-- A pin access completes (R87). -/
def execAccessCompletion (data : Word) (rdy : List Bool) (s : State) : Host.Outcome State Fault Refusal :=
  .next (s.event fun t => t.finishPin data rdy)

/-- The scratch access in progress completes (R63). -/
def State.finishScratch (s : State) : State :=
  match s.scratchAccess with
  | none => s
  | some a => s.completeScratch a

/-- A scratch access completes 2 ticks after it begins (R63); a unit outside the 512 bytes is a fault. -/
def execScratchAccessCompletion (s : State) : Host.Outcome State Fault Refusal :=
  if s.holding then .next s
  else
    let t := s.before State.finishScratch
    if t.scratchAccess.all fun a => scratchInside (t.window a.window).profile.width a.addr then .next t.finishScratch
    else .fault .scratchOutside

/-- The ready limit passes without RDY (R96). -/
def execReadyTimeout (s : State) : Host.Outcome State Fault Refusal := .next (s.event State.finishTimeout)

/-! ## Bus sharing -/

/-- The level of BREQ is asserted, and the request is answered (R101). -/
def State.request (s : State) : State := { s with breq := true }.answerRequest

/-- BREQ is sampled asserted (R101): with sharing enabled the engine is asked to release the bus. In the holding state of a reset
the level is all that changes. -/
def execBreqAsserted (s : State) : Host.Outcome State Fault Refusal :=
  .next (if s.holding then { s with breq := true } else s.event State.request)

/-- BREQ is sampled deasserted: a release whose BGNT has asserted ends (R102), one whose BGNT has not runs its course (R101). -/
def State.withdrawRequest (s : State) : State :=
  let t := { s with breq := false }
  if t.releaseOver then t.endRelease else t

/-- BREQ is sampled deasserted (R102). In the holding state of a reset the level is all that changes. -/
def execBreqDeasserted (s : State) : Host.Outcome State Fault Refusal :=
  .next (if s.holding then { s with breq := false } else s.event State.withdrawRequest)

/-- Two ticks after the release event BGNT asserts, and the release record takes that moment as the start of the release (R101). With
BREQ sampled deasserted in that tick the release ends there, as the step due next (R102, log entry 1). -/
def State.assertBgnt (s : State) : State :=
  match s.bus.release with
  | none => s
  | some r =>
    if r.start = none then
      let t := s.reach (r.at_ + 2)
      { t with bus.release := some { r with start := some t.now } }
    else s

/-- BGNT asserts (R101). -/
def execBgntAssertion (s : State) : Host.Outcome State Fault Refusal := .next (s.event State.assertBgnt)

/-- A release has lasted longer than the sharing limit (R103). -/
def execShareOverrunRaise (s : State) : Host.Outcome State Fault Refusal := .next (s.event State.overrunRelease)

end Sys2Proof.Machine
end

