-- ==== Sys2Proof/Machine/AttentionSteps.lean ====
section
/-! DEFINITION. The steps of the Attention Monitor. -/

namespace Sys2Proof.Machine

/-- A sample of an attention input at another level than before (R128). -/
def execAttentionInputChange (line : Fin 8) (level : Bool) (s : State) : Host.Outcome State Fault Refusal :=
  .next (s.event fun t => t.sampleInput line level)

/-- A pending change is recognised (R128 to R131, R134), after what is due before it. -/
def execChangeRecognised (line : Fin 8) (s : State) : Host.Outcome State Fault Refusal :=
  .next (if s.holding then s else (s.upTo (.change line)).recogniseLine line)

end Sys2Proof.Machine
end

