-- ==== Sys2Proof/Machine/ResetSteps.lean ====
section
/-! DEFINITION. The resets of the whole part that are not requests, and the end of their holding state (R122). -/

namespace Sys2Proof.Machine

/-- Power-on (R122). -/
def execPowerOnReset (s : State) : Host.Outcome State Fault Refusal := .next s.powerOn

/-- RST is asserted (R122). -/
def execPinReset (s : State) : Host.Outcome State Fault Refusal := .next s.assertReset

/-- The part leaves the holding state (R122, R126, R173, R187). -/
def execResetRelease (baud : BitVec 2) (atn : BitVec 8) (s : State) : Host.Outcome State Fault Refusal :=
  .next (s.releaseReset baud atn)

end Sys2Proof.Machine
end

