-- ==== Sys2Proof/Machine/Dispatch.lean ====
section
/-! DEFINITION. Which meaning each step of the part has: one arm for each constructor of Instr. -/

namespace Sys2Proof.Machine

/-- The effect of a command on everything but the queue of commands. -/
def exec (i : Instr) (s : State) : Host.Outcome State Fault Refusal :=
  match i with
  | .submit => Sys2Proof.Machine.execSubmit s
  | .cancel => Sys2Proof.Machine.execCancel s
  | .flush => Sys2Proof.Machine.execFlush s
  | .configureWindow => Sys2Proof.Machine.execConfigureWindow s
  | .clearFault => Sys2Proof.Machine.execClearFault s
  | .setupAttention => Sys2Proof.Machine.execSetupAttention s
  | .acknowledgeAttention => Sys2Proof.Machine.execAcknowledgeAttention s
  | .hold => Sys2Proof.Machine.execHold s
  | .resume => Sys2Proof.Machine.execResume s
  | .setSharing => Sys2Proof.Machine.execSetSharing s
  | .setLink => Sys2Proof.Machine.execSetLink s
  | .resetDevice => Sys2Proof.Machine.execResetDevice s
  | .queryDevice => Sys2Proof.Machine.execQueryDevice s
  | .queryWindow => Sys2Proof.Machine.execQueryWindow s
  | .queryTransaction => Sys2Proof.Machine.execQueryTransaction s
  | .queryAttention => Sys2Proof.Machine.execQueryAttention s
  | .queryLink => Sys2Proof.Machine.execQueryLink s
  | .unknownRequest => Sys2Proof.Machine.execUnknownRequest s
  | .dataFrame => Sys2Proof.Machine.execDataFrame s
  | .ackFrame => Sys2Proof.Machine.execAckFrame s
  | .nakFrame => Sys2Proof.Machine.execNakFrame s
  | .resync => Sys2Proof.Machine.execResync s
  | .hostResyncReply => Sys2Proof.Machine.execHostResyncReply s
  | .unknownControlFrame => Sys2Proof.Machine.execUnknownControlFrame s
  | .crcError => Sys2Proof.Machine.execCrcError s
  | .gapError => Sys2Proof.Machine.execGapError s
  | .ackRequested => Sys2Proof.Machine.execAckRequested s
  | .frameTransmitEnd => Sys2Proof.Machine.execFrameTransmitEnd s
  | .retransmissionTimeout => Sys2Proof.Machine.execRetransmissionTimeout s
  | .announceTimer => Sys2Proof.Machine.execAnnounceTimer s
  | .reportTake => Sys2Proof.Machine.execReportTake s
  | .reportAdmission => Sys2Proof.Machine.execReportAdmission s
  | .shareOverrunRaise => Sys2Proof.Machine.execShareOverrunRaise s
  | .grant starts => Sys2Proof.Machine.execGrant starts s
  | .recoveryEnd w => Sys2Proof.Machine.execRecoveryEnd w s
  | .accessCompletion data rdy => Sys2Proof.Machine.execAccessCompletion data rdy s
  | .scratchAccessCompletion => Sys2Proof.Machine.execScratchAccessCompletion s
  | .readyTimeout => Sys2Proof.Machine.execReadyTimeout s
  | .pollTimerExpiry w => Sys2Proof.Machine.execPollTimerExpiry w s
  | .delayExpiry w => Sys2Proof.Machine.execDelayExpiry w s
  | .waitTimeout w => Sys2Proof.Machine.execWaitTimeout w s
  | .attentionInputChange line level => Sys2Proof.Machine.execAttentionInputChange line level s
  | .changeRecognised line => Sys2Proof.Machine.execChangeRecognised line s
  | .breqAsserted => Sys2Proof.Machine.execBreqAsserted s
  | .breqDeasserted => Sys2Proof.Machine.execBreqDeasserted s
  | .powerOnReset => Sys2Proof.Machine.execPowerOnReset s
  | .pinReset => Sys2Proof.Machine.execPinReset s
  | .resetRelease baud atn => Sys2Proof.Machine.execResetRelease baud atn s
  | .byteReceived b => Sys2Proof.Machine.execByteReceived b s
  | .bgntAssertion => Sys2Proof.Machine.execBgntAssertion s

end Sys2Proof.Machine
end

