-- ==== Sys2Proof/Safety.lean ====
section
/-! DEFINITION. What the manual promises of every state that the part can reach: scratch memory in its canonical form, the capacities
of the queues and reports, distinct tags, the discipline of the window queues, epochs, waiter lists and age stamps. And when the part
is at rest. -/

namespace Sys2Proof

/-- The commands that are events of the outside or of a timer, before which every step that is due is taken (log entry 1). The
recognition of a change is such an event or a due step, and stands with the due steps. -/
def Instr.outside : Instr → Bool
  | .gapError | .ackRequested | .frameTransmitEnd | .retransmissionTimeout | .announceTimer | .shareOverrunRaise => true
  | .grant _ | .recoveryEnd _ | .accessCompletion _ _ | .scratchAccessCompletion | .readyTimeout => true
  | .pollTimerExpiry _ | .delayExpiry _ | .waitTimeout _ | .attentionInputChange _ _ => true
  | .breqAsserted | .breqDeasserted | .byteReceived _ | .bgntAssertion => true
  | .submit | .cancel | .flush | .configureWindow | .clearFault | .setupAttention | .acknowledgeAttention => false
  | .hold | .resume | .setSharing | .setLink | .resetDevice => false
  | .queryDevice | .queryWindow | .queryTransaction | .queryAttention | .queryLink | .unknownRequest => false
  | .dataFrame | .ackFrame | .nakFrame | .resync | .hostResyncReply | .unknownControlFrame | .crcError => false
  | .reportTake | .reportAdmission | .changeRecognised _ | .powerOnReset | .pinReset | .resetRelease _ _ => false

end Sys2Proof

namespace Sys2Proof.Machine

/-! ## Where a command acts -/

/-- The part is at rest up to the moment `t`: not in the holding state of a reset, and nothing is due before anything at `t`. An event
of that moment then acts on the state as it stands. -/
def State.quietTo (s : State) (t : Nat) : Bool := !s.holding && decide (s.dueBy t = none)

/-- The part is at rest: an event at the clock as it stands acts on the state as it stands. -/
def State.quiet (s : State) : Bool := s.quietTo s.now

/-- Scratch memory is in its canonical form. -/
def State.scratchCanonical (s : State) : Bool := scratchWf s.bus.scratch

/-- The capacities of the Reporter and the Link Controller (R143, R164, R168, R182, R184): 32 reports, 4 frames, 8 messages, a
starvation counter of at most 4, a retry count of at most 8 that is below 8 in UP. -/
def State.linkBounded (s : State) : Bool :=
  decide (s.rpt.queue.length ≤ 32) && decide (s.lnk.replay.length ≤ 4) && decide (s.lnk.intake.length ≤ 8)
    && decide (s.rpt.starvation ≤ 4) && decide (s.lnk.retry ≤ 8) && decide (s.lnk.state = .up → s.lnk.retry < 8)

/-- The capacities of the pool and the window queues (R10): 48 live records, and no queue longer than its window's limit. -/
def State.poolBounded (s : State) : Bool :=
  decide (s.live.length ≤ 48) && allWindows.all fun w => decide ((s.queue w).length ≤ (s.window w).profile.queueLimit)

/-- No two live records carry the same tag (R2). -/
def State.tagsDistinct (s : State) : Bool := decide ((s.live.map Record.tag).Nodup)

/-- A bus-side record has no outcome (R8), a wake condition exactly while PARKED (R6), an abort request only while RUNNING (R5), and
is not COMPLETING. -/
def Record.busSideOk (r : Record) : Bool :=
  decide (r.outcome = none) && decide (r.wake.isSome = true ↔ r.state = .parked) && decide (r.abort.isSome = true → r.state = .running)
    && decide (r.state ≠ .completing)

/-- The queue of window `w` as R14, R19 and R49 describe it: every member but the head is QUEUED, the head is RUNNING exactly when
the grant names its window, a DISABLED window is empty, and a FAULTED one holds QUEUED members only. -/
def State.queueOk (s : State) (w : Fin 6) : Bool :=
  (s.queue w).all Record.busSideOk
    && (s.queue w).tail.all (fun r => decide (r.state = .queued))
    && decide (s.sch.grant = some w ↔ ∃ r ∈ s.head w, r.state = .running)
    && decide ((s.window w).state = .disabled → s.queue w = [])
    && decide ((s.window w).state = .faulted → ∀ r ∈ s.queue w, r.state = .queued)

/-- Queues, grant and backlog agree (R8, R14, R69, R86): every queue is as `queueOk` says, an access in progress is one of the
granted window, and the records of the backlog are COMPLETING with an outcome. -/
def State.disciplined (s : State) : Bool :=
  allWindows.all s.queueOk
    && (match s.bus.access with
      | none => true
      | some a => decide (s.sch.grant = some a.window))
    && s.rpt.backlog.all fun r => decide (r.state = .completing) && r.outcome.isSome

/-- The age stamps that lines hold, in the order of the lines. -/
def State.stampList (s : State) : List Nat := allLines.filterMap fun l => (s.line l).stamp

/-- A line holds a stamp exactly while its count is above 0, no count exceeds 255, and the stamps held are the numbers 1 to k, each
once (R127, R132). -/
def State.stampsRanked (s : State) : Bool :=
  allLines.all (fun l => decide ((s.line l).stamp.isSome = true ↔ 0 < (s.line l).count) && decide ((s.line l).count ≤ 255))
    && decide s.stampList.Nodup && s.stampList.all (fun n => decide (1 ≤ n ∧ n ≤ s.stampList.length))

/-- How far the epoch counter has run ahead of a record's epoch, modulo 65536 (R22). -/
def State.epochDistance (s : State) (r : Record) : Nat := (s.epoch - r.epoch).toNat

/-- Epochs never decrease from the head of a window queue to its tail (R18), and the counter is at most 96 ahead of any (R22). -/
def State.epochsOrdered (s : State) : Bool :=
  allWindows.all fun w =>
    decide (((s.queue w).map s.epochDistance).Pairwise fun a b => b ≤ a) && (s.queue w).all fun r => decide (s.epochDistance r ≤ 96)

/-- The record is PARKED in a WAIT ATTENTION, with its wake condition on line `l`. -/
def Record.waitsOn (r : Record) (l : Fin 8) : Bool :=
  decide (r.state = .parked) && match r.op?, r.wake with
    | some (.waitAttention k _), some (.attention j _) => decide (k = l ∧ j = l)
    | _, _ => false

/-- The waiter list of line `l` as R132 and R133 describe it: no tag twice, at most six, none on a line with events or in mode OFF, and
each of a PARKED head that waits on the line. -/
def State.waitersOk (s : State) (l : Fin 8) : Bool :=
  let x := s.line l
  decide x.waiters.Nodup && decide (x.waiters.length ≤ 6) && decide (x.waiters ≠ [] → x.count = 0 ∧ x.mode ≠ .off)
    && x.waiters.all fun tag => allWindows.any fun w => (s.head w).any fun r => decide (r.tag = tag) && r.waitsOn l

/-- Every waiter list is as `waitersOk` says, and every head whose wake condition is ATTENTION on a line stands on its list (R132). -/
def State.waitersRegistered (s : State) : Bool :=
  allLines.all s.waitersOk && allWindows.all fun w => (s.head w).all fun r => match r.wake with
    | some (.attention l _) => decide (r.tag ∈ (s.line l).waiters)
    | some (.timer _) | none => true

/-- The bytes of a unit. -/
def unitSize (width : Width) : Nat :=
  match width with
  | .w8 => 1
  | .w16 => 2

/-- The result bytes that an operation can still append from unit `i` on (R7, R27); `writing` says that a MODIFY has made its read. -/
def Op.room (width : Width) (i : Nat) (writing : Bool) : Op → Nat
  | .read _ n _ => max 1 (n - i) * unitSize width
  | .modify _ _ _ ret => if ret && !writing then unitSize width else 0
  | .scan _ _ _ _ _ _ _ => 2
  | .write _ _ | .writeBlock _ _ _ | .poll _ _ _ _ _ | .waitAttention _ _ | .delay _ => 0

/-- The result bytes that a record can still append. -/
def Record.room (r : Record) (width : Width) (writing : Bool) : Nat :=
  match r.ops.drop r.opIndex with
  | [] => 0
  | op :: more => op.room width r.unitIndex writing + (more.map (Op.room width 0 false)).sum

/-- The write of a MODIFY of window `w`, or any other write, is in progress. -/
def State.writing (s : State) (w : Fin 6) : Bool :=
  s.bus.access.any fun a => decide (a.window = w ∧ a.kind = .write)

/-- The result data of every record stays within 192 bytes to its end (R7, R27), the body of the reply formed within 88, and no report
admitted is longer than the 207 bytes of the largest COMPLETION (Table 11–6). -/
def State.reportsBounded (s : State) : Bool :=
  (allWindows.all fun w =>
    let width := (s.window w).profile.width
    (s.head w).all (fun r => decide (r.data.length + r.room width (s.writing w) ≤ 192))
      && (s.queue w).tail.all fun r => decide (r.data.length + r.room width false ≤ 192))
    && s.rpt.backlog.all (fun r => decide (r.data.length ≤ 192))
    && s.dsp.slot.all (fun r => decide (r.body.length ≤ 88))
    && s.rpt.queue.all (fun r => decide (r.bytes.length ≤ 207))
    && s.lnk.replay.all fun f => decide (f.report.bytes.length ≤ 207)

/-! ## What a command finds -/

/-- The Dispatcher is IDLE and the message stands at the head of the Intake Queue before `rest` (R144). -/
abbrev State.offers (s : State) (m : Message) (rest : List Message) : Prop :=
  s.lnk.intake = m :: rest ∧ s.dsp.slot = none ∧ s.dsp.holdWait = none

/-- The command of a request kind. -/
def RequestKind.command : RequestKind → Instr
  | .submit => .submit
  | .cancel => .cancel
  | .flush => .flush
  | .configureWindow => .configureWindow
  | .clearFault => .clearFault
  | .setupAttention => .setupAttention
  | .acknowledgeAttention => .acknowledgeAttention
  | .hold => .hold
  | .resume => .resume
  | .setSharing => .setSharing
  | .setLink => .setLink
  | .resetDevice => .resetDevice
  | .queryDevice => .queryDevice
  | .queryWindow => .queryWindow
  | .queryTransaction => .queryTransaction
  | .queryAttention => .queryAttention
  | .queryLink => .queryLink

/-- The code of the first check that fails: the first pair whose condition holds. -/
def firstFailure (checks : List (Bool × ResultCode)) : Option ResultCode :=
  (checks.find? Prod.fst).map Prod.snd

/-- What taking a message and answering it changes when the request changes nothing else: the message leaves the Intake Queue, the
request count rises, and the reply stands in the pending-reply slot with that count (R144, R145, R148). -/
def State.answered (s : State) (rest : List Message) (kind : Byte) (code : ResultCode) (body : List Byte) : State :=
  { s with
    lnk.intake := rest
    dsp := {
      count := s.dsp.count + 1
      slot := some { kind := kind, count := s.dsp.count + 1, code := code, body := body }
      holdWait := none } }

/-- The Dispatcher took the request at the head of the queue, refused it with the code of the first check that fails, and nothing
but the count changed; with no check failing it was accepted. The body of a refusal is the object field, and empty for BAD_FORMAT
(R148). -/
def State.refusedFirst (s : State) (c : Instr) (kind : Byte) (rest : List Message) (object : List Byte)
    (checks : List (Bool × ResultCode)) : Prop :=
  (∀ code, firstFailure checks = some code →
    exec c s = .next (s.answered rest kind code (if code = .badFormat then [] else object))) ∧
  (firstFailure checks = none → ∃ t, exec c s = .next t ∧ t.dsp.slot.map Reply.code = some .accepted)

/-- The number of lines other than `l` that hold an age stamp. -/
def State.otherStamps (s : State) (l : Fin 8) : Nat :=
  (allLines.filter fun k => decide (k ≠ l) && (s.line k).stamp.isSome).length

/-- Line `l` has become `x` with its events gone: count 0 and no stamp, the larger stamps of the others one lower; or, where its
mode and level make it active, one new event and the newest stamp (R127, R131). Nothing but lines has changed. -/
def State.lineCleared (s t : State) (l : Fin 8) (x : Line) : Prop :=
  t = { s with atn := t.atn } ∧
  t.line l = (if (x.mode = .levelHigh ∧ x.level = true) ∨ (x.mode = .levelLow ∧ x.level = false)
    then { x with count := 1, stamp := some (s.otherStamps l + 1) } else { x with count := 0, stamp := none }) ∧
  ∀ k, k ≠ l → t.line k = { s.line k with
    stamp := (s.line k).stamp.map fun n => if (s.line l).stamp.any (fun m => decide (m < n)) then n - 1 else n }

/-- The records of a SUBMIT message: as many as its count gives, filling the rest exactly, with the count 1 to 16 (R192). -/
def submittedOps (m : Message) : Option (List Op) :=
  if 1 ≤ (byteAt m 6).toNat ∧ (byteAt m 6).toNat ≤ 16 then parseOps (byteAt m 6).toNat (m.drop 7) else none

/-- A record ended in COMPLETING with the given outcome, operations completed, failing index and detail (R8). -/
def Record.ended (r : Record) (o : TxOutcome) (ops : Nat) (fail : Option Nat) (detail : Nat) : Record :=
  { r with state := .completing, wake := none, outcome := some o, opsCompleted := ops, failIndex := fail, detail := detail }

/-! ## The reset state -/

/-- Every block as R20, R50, R65, R86, R88, R91, R126, R145, R146, R159, R172 and R189 put it after a reset of the given cause. -/
def State.blocksReset (t : State) (cause : ResetCause) : Prop :=
  (∀ w, t.window w = { state := .disabled, profile := Profile.default, queue := [] }) ∧ t.epoch = 0#16 ∧
  t.sch = { grant := none, pointer := 5, slice := 0, hold := false, delayEnds := Vector.replicate 6 none } ∧
  t.bus.access = none ∧ t.bus.ownership = .owned ∧ t.bus.recovery = Vector.replicate 6 none ∧ t.bus.shareEnable = false ∧
  t.bus.shareLimit = 0 ∧ t.bus.release = none ∧ t.bus.aHeld = 0#16 ∧ t.bus.strobePolarity = .lowActive ∧
  t.bus.advPolarity = .lowActive ∧
  (∀ l, (t.line l).mode = .off ∧ (t.line l).priority = 0 ∧ (t.line l).filter = 0 ∧ (t.line l).report = false ∧
    (t.line l).count = 0 ∧ (t.line l).lost = false ∧ (t.line l).lastEdge = .rise ∧ (t.line l).stamp = none ∧
    (t.line l).outstanding = false ∧ (t.line l).waiters = [] ∧ (t.line l).pendingChange = none) ∧
  t.dsp = { count := 0#16, slot := none, holdWait := none } ∧
  t.rpt = { queue := [], backlog := [], serial := 0#16, starvation := 0, overrun := none } ∧
  t.lnk.state = .start ∧ t.lnk.cause = cause ∧ t.lnk.rxExpected = 0#4 ∧ t.lnk.txNext = 0#4 ∧ t.lnk.replay = [] ∧
  t.lnk.resendPoint = none ∧ t.lnk.intake = [] ∧ t.lnk.ackOwed = .none ∧ t.lnk.nak = .clear ∧
  t.lnk.nakOutOfOrder = false ∧ t.lnk.timer = none ∧
  t.lnk.timeout = 20 ∧ t.lnk.retry = 0 ∧ t.lnk.receiver = .hunting ∧ t.lnk.gathered = none ∧
  t.lnk.counters = { crc := 0, gap := 0, duplicate := 0, outOfOrder := 0, intakeFull := 0, retransmission := 0, resync := 0 }

/-- The pins around a reset taken in `s` that leaves `t` (R104, R120): in its tick a bus released since an earlier tick floats, and else
the chip selects, strobes and address strobes are at the inactive levels of the profiles and of the window of the last access, A as it
was and D released; a second reset in the same tick changes nothing. In every later tick all are at their reset levels (R91). BGNT is
deasserted throughout. -/
def State.pinsReset (s t : State) : Prop :=
  let inactive := fun p : Polarity => if p = .highActive then Level.low else .high
  (∀ (data : Word) (rdy : List Bool), (∀ x ∈ s.bus.resetPins, x.1 < s.now) →
    let p := t.pins data rdy
    p.bgnt = false ∧
    (∀ r, s.bus.release = some r → r.at_ < s.now → p = {
      cs := Vector.replicate 6 .floating, rds := .floating, wrs := .floating, adv0 := .floating, adv1 := .floating
      a := none, dLow := none, dHigh := none, weakHold := none, bgnt := false }) ∧
    ((∀ r, s.bus.release = some r → s.now ≤ r.at_) →
      (∀ w : Fin 6, p.cs[w] = inactive (s.window w).profile.csPolarity) ∧
      p.rds = inactive s.bus.strobePolarity ∧ p.wrs = inactive s.bus.strobePolarity ∧
      p.adv0 = inactive s.bus.advPolarity ∧ p.adv1 = inactive s.bus.advPolarity ∧
      p.a = some s.bus.aHeld ∧ p.dLow = none ∧ p.dHigh = none ∧ p.weakHold.isSome = true)) ∧
  (∀ (data : Word) (rdy : List Bool) x, s.bus.resetPins = some x → s.now ≤ x.1 → t.pins data rdy = x.2) ∧
  ∀ (data : Word) (rdy : List Bool) (n : Nat), s.now < n → State.pins { t with now := n } data rdy = {
    cs := Vector.replicate 6 .high, rds := .high, wrs := .high, adv0 := .high, adv1 := .high
    a := some 0#16, dLow := none, dHigh := none, weakHold := some t.bus.dHeld, bgnt := false }

/-- The scratch memory that a reset taken in `s` keeps (R64, R120): as it was, but that a scratch write it abandons has replaced its
whole unit or left it. Log entry 15. -/
def State.scratchKept (s t : State) : Prop :=
  t.bus.scratch = s.bus.scratch ∨
    ∃ a, s.bus.access = some a ∧ (s.window a.window).profile.target = .scratch ∧ a.kind = .write ∧
      t.bus.scratch = scratchWriteUnit s.bus.scratch (s.window a.window).profile.width a.addr a.value

end Sys2Proof.Machine
end

