-- ==== Sys2Proof/WellFormed.lean ====
section
/-! DEFINITION. When a command is well formed: its operands are ones that the part's pins can show. Windows, lines, levels,
bytes and straps are well formed by their types. -/

namespace Sys2Proof

/-- The longest strobe of the profile ranges, in ticks: strobe width 63 and ready limit 1023 (R95, Table 5–2). -/
def longestStrobe : Nat := 1086

/-- RDY is sampled at most once in each tick of a strobe (R94), so at most `longestStrobe` times. -/
def rdyWellFormed (rdy : List Bool) : Bool := rdy.length ≤ longestStrobe

/-- The operands of a command are within what the part's pins can show. -/
def Instr.wellFormed : Instr → Bool
  | .accessCompletion _ rdy => rdyWellFormed rdy
  | .submit | .cancel | .flush | .configureWindow | .clearFault | .setupAttention | .acknowledgeAttention => true
  | .hold | .resume | .setSharing | .setLink | .resetDevice => true
  | .queryDevice | .queryWindow | .queryTransaction | .queryAttention | .queryLink | .unknownRequest => true
  | .dataFrame | .ackFrame | .nakFrame | .resync | .hostResyncReply | .unknownControlFrame | .crcError => true
  | .gapError | .ackRequested | .frameTransmitEnd | .retransmissionTimeout | .announceTimer => true
  | .reportTake | .reportAdmission | .shareOverrunRaise => true
  | .grant _ | .recoveryEnd _ | .scratchAccessCompletion | .readyTimeout => true
  | .pollTimerExpiry _ | .delayExpiry _ | .waitTimeout _ => true
  | .attentionInputChange _ _ | .changeRecognised _ | .breqAsserted | .breqDeasserted => true
  | .powerOnReset | .pinReset | .resetRelease _ _ | .byteReceived _ | .bgntAssertion => true

end Sys2Proof
end

