-- ==== Sys2Proof/Certificates/Slice0/Obligations.lean ====
section
/-! DEFINITION. The statements for the provers. Each says what the manual's rules say of a command, of an operation that commands
share, or of every state a step leads to. A statement that rests on a choice of the model names its log entry. -/

open Sys2Proof Sys2Proof.Machine

/-! ## Steps -/

/-- A step takes the command at the front of the queue and carries it out with the queue's rest; with none waiting and nothing due
before the next tick, one tick passes (log entry 2). -/
def Obligations.StepRunsCommand : Prop :=
  (∀ (c : Instr) (s : State) (rest : List Instr), s.pending = c :: rest → step s = exec c { s with pending := rest }) ∧
  ∀ s : State, s.pending = [] → s.dueBy (s.now + 1) = none → step s = .next { s with now := s.now + 1 }

/-- After the steps due before an event have been taken, none is due before its moment, and taking them one by one comes to the same
state: the bound of `State.before` suffices, and so that of `State.drain` (log entry 1). -/
def Obligations.DrainSettles : Prop :=
  (∀ (s : State) (effect : State → State), (∀ t, t.now ≤ (effect t).now) →
    (s.before effect).dueBy (effect (s.before effect)).now = none ∧
    ∀ d, s.dueBy (effect s).now = some d → s.before effect = (s.takeDue d).before effect) ∧
  ∀ s : State, s.drain.due = none ∧ ∀ d, s.due = some d → s.drain = (s.takeDue d).drain

/-- Outside a reset's holding state an event of the outside acts as it would once every step that is due has been taken, and a step that
is due before the moment to which the event carries the clock (log entry 1); it leaves no pending change whose last moment, 1 µs after the
filter time, lies before it (R128). In the holding state it changes nothing but the level of BREQ, which its two events give (R122; log
entry 23). The rows of an admission, of the taking of a report and of a recognised change are that step when it is due next, and else act
once what is due before it has been taken (R169; log entries 3, 21). -/
def Obligations.EventFollowsDueSteps : Prop :=
  (∀ (c : Instr) (s : State), c.outside = true →
    (s.holding = false → exec c s = exec c s.drain) ∧
    (s.holding = true → exec c s = .next { s with
      breq := if c = .breqAsserted then true else if c = .breqDeasserted then false else s.breq })) ∧
  (∀ (s : State) (w : Fin 6) (starts : Bool) (data : Word) (rdy : List Bool), s.holding = false →
    ∀ row ∈ [(Instr.grant starts, fun t => t.makeChoice starts), (.gapError, State.takeGap), (.ackRequested, State.requestAck),
        (.frameTransmitEnd, State.endFrame), (.retransmissionTimeout, State.expireRetransmission), (.announceTimer, State.expireAnnounce),
        (.pollTimerExpiry w, fun t => t.expirePoll w), (.delayExpiry w, fun t => t.expireDelay w),
        (.waitTimeout w, fun t => t.expireWait w), (.recoveryEnd w, fun t => t.endRecovery w),
        (.accessCompletion data rdy, fun t => t.finishPin data rdy), (.scratchAccessCompletion, State.finishScratch),
        (.readyTimeout, State.finishTimeout), (.bgntAssertion, State.assertBgnt), (.breqDeasserted, State.withdrawRequest),
        (.shareOverrunRaise, State.overrunRelease)],
      ∀ d, s.dueBy (row.2 s).now = some d → exec row.1 s = exec row.1 (s.takeDue d)) ∧
  (∀ (c : Instr) (s t : State), c.outside = true → s.holding = false → exec c s = .next t →
    ∀ (l : Fin 8) (level : Bool) (since : Nat), (t.line l).pendingChange = some (level, since) →
      t.now ≤ since + 40 * ((t.line l).filter + 1)) ∧
  ∀ (s : State) (l : Fin 8), s.holding = false →
    ∀ row ∈ [(Instr.reportAdmission, Due.admission), (.reportTake, .report), (.changeRecognised l, .change l)],
      let moment := (s.takeDue row.2).now
      (s.dueBy moment = some row.2 → exec row.1 s = .next (s.takeDue row.2)) ∧
      ∀ d, s.dueBy moment = some d → d ≠ row.2 → exec row.1 s = exec row.1 (s.takeDue d)

/-! ## Resets -/

/-- Power-on and the assertion of RST put every block in its reset state and the part in the holding state; scratch memory is zeros
after the one and kept by the other, but that a scratch write it abandons has replaced its whole unit or left it, whichever it is; the
pins of the tick in which they are taken and of the ticks after it are those of R120 and R91 (R64, R91, R104, R120, R122). Model
choices: log entries 15, 28, 34. -/
def Obligations.ResetsFromOutside : Prop :=
  ∀ s : State,
    (∃ t, exec .powerOnReset s = .next t ∧ t.blocksReset .power ∧ t.holding = true ∧ t.bus.scratch = [] ∧ t.lnk.tx = none ∧
      t.lnk.announce = none ∧ t.breq = s.breq ∧ t.now = s.now ∧ t.pending = s.pending ∧ s.pinsReset t) ∧
    ∃ t, exec .pinReset s = .next t ∧ t.blocksReset .pin ∧ t.holding = true ∧ t.lnk.tx = none ∧ t.lnk.announce = none ∧
      t.breq = s.breq ∧ t.now = s.now ∧ t.pending = s.pending ∧ s.scratchKept t ∧ s.pinsReset t

/-- A RESET DEVICE of the right length forms no reply, puts every block in its reset state with cause SOFT, keeps the rate and scratch
memory, but for the unit of a scratch write it abandons, and the link announces at once with the 13 bytes of Table 11–8; the pins are
those of R120 and R91 (R64, R104, R120, R121, R123, R187). Model choices: log entries 15, 31, 34. -/
def Obligations.ResetDevice : Prop :=
  ∀ (s : State) (rest : List Message), s.offers [0x0C#8] rest → s.holding = false →
    ∃ t, exec .resetDevice s = .next t ∧ t.blocksReset .soft ∧ t.holding = false ∧ t.lnk.baud = s.lnk.baud ∧ t.breq = s.breq ∧
      t.now = s.now ∧ t.pending = s.pending ∧ s.scratchKept t ∧ s.pinsReset t ∧
      t.lnk.announce = some (s.now + 4000000) ∧
      t.lnk.tx = some {
        kind := .resync, begun := s.now
        bytes := frameBytes 0x04#8 0x00#8 [0x20#8, 0x41#8, 0x01#8, 0x03#8, 6#8, 48#8, 32#8, 8#8, 4#8, 0#8, 0#8, 0#8, 0#8] }

/-- Leaving the holding state: the straps and the first attention samples are taken, and the link announces in START with the recorded
cause at once and every 100 ms (R122, R126, R172, R173, R187). Model choices: log entry 5. -/
def Obligations.ResetRelease : Prop :=
  ∀ (s : State) (cause : ResetCause) (baud : BitVec 2) (atn : BitVec 8), s.holding = true → s.blocksReset cause →
    s.lnk.tx = none → s.lnk.resyncReplyDue = false →
    ∃ t, exec (.resetRelease baud atn) s = .next t ∧ t.holding = false ∧ t.blocksReset cause ∧ t.lnk.baud = baud ∧
      (∀ l : Fin 8, (t.line l).level = atn.getLsbD l.val) ∧ t.lnk.announce = some (s.now + 4000000) ∧ t.lnk.resyncDue = false ∧
      t.lnk.tx = some {
        kind := .resync, begun := s.now
        bytes := frameBytes 0x04#8 0x00#8 [0x20#8, 0x41#8, 0x01#8, cause.byte, 6#8, 48#8, 32#8, 8#8, 4#8, 0#8, 0#8, 0#8, 0#8] } ∧
      t.bus = s.bus ∧ t.breq = s.breq ∧ t.now = s.now ∧ t.pending = s.pending

/-- State.reset is the reset state of a power-on, in the holding state, and has every invariant stated below. Model choices: log
entries 5, 34. -/
def Obligations.ResetState : Prop :=
  State.reset.blocksReset .power ∧ State.reset.holding = true ∧ State.reset.bus.scratch = [] ∧ State.reset.pending = [] ∧
  State.reset.scratchCanonical = true ∧ State.reset.linkBounded = true ∧ State.reset.poolBounded = true ∧
  State.reset.tagsDistinct = true ∧ State.reset.disciplined = true ∧ State.reset.stampsRanked = true ∧
  State.reset.epochsOrdered = true ∧ State.reset.waitersRegistered = true ∧ State.reset.reportsBounded = true

/-! ## Invariants of every step -/

/-- Scratch memory keeps its canonical form, all of it within the 512 bytes. -/
def Obligations.ScratchStaysCanonical : Prop :=
  ∀ s t : State, s.scratchCanonical = true → step s = .next t → t.scratchCanonical = true

/-- The Report Queue, the replay buffer, the Intake Queue, the starvation counter and the retry count keep within their capacities
(R143, R164, R168, R182, R184). -/
def Obligations.LinkStaysBounded : Prop :=
  ∀ s t : State, s.linkBounded = true → step s = .next t → t.linkBounded = true

/-- At most 48 records stay live, and no window queue outgrows its window's limit (R10). -/
def Obligations.PoolStaysBounded : Prop :=
  ∀ s t : State, s.poolBounded = true → step s = .next t → t.poolBounded = true

/-- No two live records come to carry the same tag (R2), where the queues keep their discipline. -/
def Obligations.TagsStayDistinct : Prop :=
  ∀ s t : State, s.disciplined = true → s.tagsDistinct = true → step s = .next t → t.tagsDistinct = true

/-- The discipline of the window queues is kept (R5, R6, R8, R14, R19, R49, R69, R86): only a head is anything but QUEUED, at most
one transaction is RUNNING and the grant names it, and an access in progress is its. -/
def Obligations.QueuesStayDisciplined : Prop :=
  ∀ s t : State, s.tagsDistinct = true → s.disciplined = true → step s = .next t → t.disciplined = true

/-- Age stamps stay the numbers 1 to k of the k lines whose count is above 0, and no count exceeds 255 (R127, R132). -/
def Obligations.StampsStayRanked : Prop :=
  ∀ s t : State, s.stampsRanked = true → step s = .next t → t.stampsRanked = true

/-- Epochs stay in order along every window queue, and the epoch counter at most 96 ahead of any record on the bus side (R18, R22). -/
def Obligations.EpochsStayOrdered : Prop :=
  ∀ s t : State, s.epochsOrdered = true → step s = .next t → t.epochsOrdered = true

/-- The waiter lists stay as R132 and R133 describe them: no tag twice, at most six, none on a line with events or in mode OFF, each the
tag of a PARKED head that waits on the line; and every such head stands on its list. -/
def Obligations.WaitersStayRegistered : Prop :=
  ∀ s t : State, s.tagsDistinct = true → s.disciplined = true → s.waitersRegistered = true → step s = .next t →
    t.waitersRegistered = true

/-- Result data stay within the 192 bytes of R7, and with them every report within 207 bytes (R7, R27, Table 11–6). -/
def Obligations.ReportsStayBounded : Prop :=
  ∀ s t : State, s.disciplined = true → s.reportsBounded = true → step s = .next t → t.reportsBounded = true

/-! ## Formats -/

/-- Which byte is which in the record of each kind of operation (Table 11–5) and in the 19 bytes of a profile (Tables 11–3, 11–4). Every
operation list whose fields lie in their ranges is read back from its records (R192), and every profile whose fields lie in theirs from
its 19 bytes wherever they stand; a list or a profile that is read lies in range. A flag inside a record reads 0 as no and every other
value as yes (R191). -/
def Obligations.FormatsReadBack : Prop :=
  let lo := fun x : Word => (x.setWidth 8 : Byte)
  let hi := fun x : Word => ((x >>> 8).setWidth 8 : Byte)
  let byte := fun n : Nat => BitVec.ofNat 8 n
  let flag := fun b : Bool => if b then 1#8 else 0#8
  let high := fun p : Polarity => match p with | .lowActive => 0#8 | .highActive => 1#8
  ((∀ a v : Word, (Op.write a v).bytes = [0x01#8, lo a, hi a, lo v, hi v]) ∧
  (∀ (a : Word) (inc : Bool) (vs : List Word), (Op.writeBlock a inc vs).bytes =
    [0x02#8, lo a, hi a, byte vs.length, flag inc] ++ vs.flatMap fun v => [lo v, hi v]) ∧
  (∀ (a : Word) (n : Nat) (inc : Bool), (Op.read a n inc).bytes = [0x03#8, lo a, hi a, byte n, flag inc]) ∧
  (∀ (a k o : Word) (ret : Bool), (Op.modify a k o ret).bytes = [0x04#8, lo a, hi a, lo k, hi k, lo o, hi o, flag ret]) ∧
  (∀ (a mask want : Word) (i n : Nat), (Op.poll a mask want i n).bytes =
    [0x05#8, lo a, hi a, lo mask, hi mask, lo want, hi want, byte i, byte (i / 256), byte n, byte (n / 256)]) ∧
  (∀ (a key mask : Word) (n : Nat) (inc req : Bool) (c : ScanCond), (Op.scan a n inc key mask c req).bytes =
    [0x06#8, lo a, hi a, byte n, flag inc, lo key, hi key, lo mask, hi mask,
      match c with | .eq => 0#8 | .ne => 1#8 | .le => 2#8 | .ge => 3#8, flag req]) ∧
  (∀ (l : Fin 8) (t : Nat), (Op.waitAttention l t).bytes = [0x07#8, byte l.val, byte t, byte (t / 256)]) ∧
  (∀ i : Nat, (Op.delay i).bytes = [0x08#8, byte i, byte (i / 256)]) ∧
  (∀ p : Profile, p.bytes = [
    match p.target with | .pins => 0#8 | .scratch => 1#8,
    match p.width with | .w8 => 8#8 | .w16 => 16#8,
    byte p.addressBits,
    match p.addressMode with | .direct => 0#8 | .single => 1#8 | .double => 2#8,
    flag p.elide, high p.csPolarity, high p.strobePolarity, high p.advPolarity, high p.readyPolarity, byte p.addressPhase,
    byte p.setup, byte p.strobe, byte p.hold, byte p.recovery,
    match p.readyMode with | .noWait => 0#8 | .wait => 1#8,
    byte p.readyLimit, byte (p.readyLimit / 256), byte p.queueLimit, flag p.softStop]) ∧
  ∀ (f g a0 a1 b0 b1 c0 c1 : Byte),
    let word := fun x y : Byte => (y ++ x : Word)
    parseOps 1 [0x02#8, a0, a1, 1#8, f, b0, b1] = some [.writeBlock (word a0 a1) (decide (f ≠ 0#8)) [word b0 b1]] ∧
    parseOps 1 [0x03#8, a0, a1, 1#8, f] = some [.read (word a0 a1) 1 (decide (f ≠ 0#8))] ∧
    parseOps 1 [0x04#8, a0, a1, b0, b1, c0, c1, f] = some [.modify (word a0 a1) (word b0 b1) (word c0 c1) (decide (f ≠ 0#8))] ∧
    parseOps 1 [0x06#8, a0, a1, 1#8, f, b0, b1, c0, c1, 0#8, g] =
      some [.scan (word a0 a1) 1 (decide (f ≠ 0#8)) (word b0 b1) (word c0 c1) .eq (decide (g ≠ 0#8))]) ∧
  (∀ ops : List Op, ops.all Op.inRange = true → parseOps ops.length (ops.flatMap Op.bytes) = some ops) ∧
  (∀ (n : Nat) (bytes : List Byte) (ops : List Op), parseOps n bytes = some ops → ops.length = n ∧ ops.all Op.inRange = true) ∧
  (∀ (p : Profile) (pre post : List Byte), p.inRange = true → profileAt (pre ++ p.bytes ++ post) pre.length = some p) ∧
  ∀ (m : Message) (o : Nat) (p : Profile), profileAt m o = some p → p.inRange = true

/-- The CRC is that of R175: over the bits of the bytes, most significant first, from 0xFFFF, with the generator x^16 + x^12 + x^5 + 1 and
no final inversion; that of the text 123456789 is 0x29B1. A frame is the sync byte, the Length, the Control byte, the sequence in the high
and the acknowledgement in the low four bits, the Message, and the CRC over all but the sync byte, high byte first (Table 11–1). The bytes
of a frame with a Message of up to 244 bytes, received one after another while hunting, give one gathered frame that is valid and carries
the Control, SeqAck and Message sent; the receiver hunts again (R174, R175). -/
def Obligations.FrameReadBack : Prop :=
  (∀ bytes : List Byte, crc bytes = (bytes.flatMap fun b => (List.range 8).map fun i => b.getLsbD (7 - i)).foldl
    (fun (c : Word) bit => if c.getLsbD 15 = bit then c <<< 1 else (c <<< 1) ^^^ 0x1021#16) 0xFFFF#16) ∧
  crc [0x31#8, 0x32#8, 0x33#8, 0x34#8, 0x35#8, 0x36#8, 0x37#8, 0x38#8, 0x39#8] = 0x29B1#16 ∧
  (∀ (control : Byte) (seq ack : SeqNum) (msg : Message),
    let body := [BitVec.ofNat 8 (msg.length + 2), control, (seq ++ ack : Byte)] ++ msg
    frameBytes control (seqAck seq ack) msg =
      [0x5A#8] ++ body ++ [((crc body) >>> 8).setWidth 8, (crc body).setWidth 8]) ∧
  ∀ (k : Link) (control : Byte) (seq ack : SeqNum) (msg : Message) (now : Nat), k.receiver = .hunting → msg.length ≤ 244 →
    ∃ g, (frameBytes control (seqAck seq ack) msg).foldl (fun k b => k.receive b now) k =
        { k with receiver := .hunting, gathered := some g } ∧
      frameValid g = true ∧ frameControl g = control ∧ frameSeq g = seq ∧ frameAck g = ack ∧ frameMessage g = msg

/-- A byte on the line is a start bit, 8 data bits least significant first and a stop bit, and is read from its data bits whatever the
stop bit shows; TXD carries the bytes of the frame in transmission so, bit by bit at the rate in force, and rests high (R172, R173). That
its bytes follow one another without a gap, and that a tick shows the bit in which it begins, are the model's choice: log entry 24. -/
def Obligations.SerialLine : Prop :=
  (∀ (b : Byte) (stop : Bool), levelsByte ([false] ++ (List.range 8).map (fun i => b.getLsbD i) ++ [stop]) = b) ∧
  (∀ s : State, s.lnk.tx = none → s.txd = true) ∧
  ∀ (s : State) (f : TxFrame) (k bit : Nat), s.lnk.tx = some f → bit < 10 →
    let rate := match s.lnk.baud.toNat with | 0 => 115200 | 1 => 460800 | 2 => 1000000 | _ => 3000000
    (s.now - f.begun) * rate / 40000000 = 10 * k + bit →
    s.txd = (match f.bytes[k]? with
      | none => true
      | some b => if bit = 0 then false else if bit = 9 then true else b.getLsbD (bit - 1))

/-- The whole message of each kind of report (Table 11–6) with the codes of R193: which byte is which. With a body of at most 88 bytes and
data of at most 192 (ReportsStayBounded) no report is longer than the 207 bytes of the largest COMPLETION, and the reply that the
Dispatcher forms in taking a request has no longer body (R160, R161, R193). -/
def Obligations.ReportBytes : Prop :=
  let lo := fun w : Word => (w.setWidth 8 : Byte)
  let hi := fun w : Word => ((w >>> 8).setWidth 8 : Byte)
  let byte := fun n : Nat => BitVec.ofNat 8 n
  let flag := fun b : Bool => if b then 1#8 else 0#8
  let window := fun o : Option (Fin 6) => match o with | none => 0xFF#8 | some w => byte w.val
  let code := fun c : ResultCode => match c with
    | .accepted => 0#8 | .held => 1#8 | .badFormat => 2#8 | .badTag => 3#8 | .badWindow => 4#8 | .windowDisabled => 5#8
    | .windowFaulted => 6#8 | .badOperation => 7#8 | .badValue => 8#8 | .badLine => 9#8 | .addrRange => 10#8 | .resultTooLarge => 11#8
    | .dupTag => 12#8 | .poolFull => 13#8 | .queueFull => 14#8 | .busy => 15#8 | .unknownTag => 16#8 | .tooLate => 17#8
    | .notFaulted => 18#8 | .notHeld => 19#8 | .notOutstanding => 20#8
  let outcome := fun o : TxOutcome => match o with
    | .done => (0#8, 0#8)
    | .failed .readyTimeout => (1#8, 1#8) | .failed .pollExhausted => (1#8, 2#8) | .failed .notFound => (1#8, 3#8)
    | .failed .waitTimeout => (1#8, 4#8) | .failed .lineOff => (1#8, 5#8)
    | .cancelled .byCancel => (2#8, 1#8) | .cancelled .byFlush => (2#8, 2#8) | .cancelled .byFaultDiscard => (2#8, 3#8)
  (∀ (serial : Word) (r : Reply), Report.bytes { serial := serial, content := .reply r } =
    [0x80#8, lo serial, hi serial, r.kind, lo r.count, hi r.count, code r.code] ++ r.body) ∧
  (∀ (serial tag count : Word) (w : Fin 6) (o : TxOutcome) (ops detail : Nat) (fail : Option Nat) (data : List Byte),
    Report.bytes { serial := serial, content := .completion tag w count (some o) ops fail detail data } =
      [0x81#8, lo serial, hi serial, lo tag, hi tag, byte w.val, lo count, hi count, (outcome o).1, (outcome o).2, byte ops,
        match fail with | none => 0xFF#8 | some k => byte k,
        byte detail, byte (detail / 256), byte data.length] ++ data) ∧
  (∀ (serial : Word) (l : Fin 8) (count : Nat) (lost level : Bool) (e : Edge),
    Report.bytes { serial := serial, content := .attention l count lost level e } =
      [0x82#8, lo serial, hi serial, byte l.val, byte count, flag lost, flag level, match e with | .rise => 0#8 | .fall => 1#8]) ∧
  (∀ (serial : Word) (limit count : Nat) (w : Option (Fin 6)),
    Report.bytes { serial := serial, content := .shareOverrun limit w count } =
      [0x83#8, lo serial, hi serial, byte limit, byte (limit / 256), window w, byte count]) ∧
  (∀ r : Report, (match r.content with
      | .reply x => x.body.length ≤ 88
      | .completion _ _ _ _ _ _ _ data => data.length ≤ 192
      | .attention _ _ _ _ _ | .shareOverrun _ _ _ => True) → r.bytes.length ≤ 207) ∧
  ∀ (s : State) (r : Reply), s.dsp.slot = none → s.takeRequest.dsp.slot = some r → r.body.length ≤ 88

/-- Scratch memory by unit (R62): at width 8 address n is byte n; at width 16 it is bytes 2n and 2n + 1, low byte first; a unit
written is read back, and every byte outside it stays. -/
def Obligations.ScratchUnits : Prop :=
  ∀ (m : List Host.Cell) (addr value : Word), scratchWf m = true →
    (scratchReadUnit m .w8 addr = (scratchRead m addr.toNat).setWidth 16) ∧
    (scratchReadUnit m .w16 addr = scratchRead m (2 * addr.toNat + 1) ++ scratchRead m (2 * addr.toNat)) ∧
    (∀ b, scratchRead (scratchWriteUnit m .w8 addr value) b = if b = addr.toNat then value.setWidth 8 else scratchRead m b) ∧
    (∀ b, scratchRead (scratchWriteUnit m .w16 addr value) b =
      if b = 2 * addr.toNat then value.setWidth 8
      else if b = 2 * addr.toNat + 1 then (value >>> 8).setWidth 8
      else scratchRead m b) ∧
    scratchReadUnit (scratchWriteUnit m .w16 addr value) .w16 addr = value

/-! ## Requests -/

/-- A message of no bytes or of an unknown kind, and one of the wrong length for its kind, is refused BAD_FORMAT with the kind code as
received and an empty body, and nothing but the request count changes (R149, R145, Table 11–2). -/
def Obligations.RequestFormat : Prop :=
  ∀ (s : State) (m : Message) (rest : List Message), s.offers m rest →
    ((m.headD 0#8).toNat = 0 ∨ 17 < (m.headD 0#8).toNat →
      exec .unknownRequest s = .next (s.answered rest (m.headD 0#8) .badFormat [])) ∧
    ∀ row ∈ [(RequestKind.submit, 0x01#8, 7), (.cancel, 0x02#8, 3), (.flush, 0x03#8, 2), (.configureWindow, 0x04#8, 22),
        (.clearFault, 0x05#8, 3), (.setupAttention, 0x06#8, 6), (.acknowledgeAttention, 0x07#8, 2), (.hold, 0x08#8, 1),
        (.resume, 0x09#8, 1), (.setSharing, 0x0A#8, 4), (.setLink, 0x0B#8, 2), (.resetDevice, 0x0C#8, 1), (.queryDevice, 0x0D#8, 1),
        (.queryWindow, 0x0E#8, 2), (.queryTransaction, 0x0F#8, 3), (.queryAttention, 0x10#8, 1), (.queryLink, 0x11#8, 2)],
      m.headD 0#8 = row.2.1 → (if row.1 = .submit then m.length < row.2.2 else m.length ≠ row.2.2) →
        exec row.1.command s = .next (s.answered rest row.2.1 .badFormat [])

/-- A SUBMIT that meets every condition of R150 creates the record of R1, with the epoch of R20 and R21, at the place of R16 and R17 in
its window's queue, and is answered with its tag, epoch and position (R151). Nothing else changes. -/
def Obligations.SubmitAccepted : Prop :=
  ∀ (s : State) (rest : List Message) (tag : Word) (w : Fin 6) (cls : TxClass) (barrier : Bool) (ops : List Op),
    s.offers ([0x01#8] ++ wordBytes tag ++ [byteOf w.val, if cls = .urgent then 1#8 else 0#8, flagByte barrier, byteOf ops.length]
      ++ ops.flatMap Op.bytes) rest →
    tag ≠ 0#16 → (s.window w).state = .enabled → 1 ≤ ops.length → ops.length ≤ 16 → ops.all Op.inRange = true →
    ops.all (Op.fitsWidth (s.window w).profile.width) = true → ops.all (Op.fitsAddress (s.window w).profile.addressBits) = true →
    resultSize (s.window w).profile.width ops ≤ 192 → (∀ r ∈ s.live, r.tag ≠ tag) → s.live.length < 48 →
    (barrier = true → s.epochReach ≤ 94) → (s.queue w).length < (s.window w).profile.queueLimit →
    let r : Record := {
      tag := tag, window := w, cls := cls, barrier := barrier, epoch := if barrier then s.epoch + 1 else s.epoch,
      ops := ops, state := .queued, abort := none, opIndex := 0, unitIndex := 0, attempts := 0, wake := none, data := [],
      outcome := none, opsCompleted := 0, failIndex := none, detail := 0, acceptedCount := s.dsp.count + 1 }
    ∃ front back, s.queue w = front ++ back ∧ (cls = .normal → back = []) ∧
      (cls = .urgent → (∀ x ∈ front, ¬ (x.state = .queued ∧ x.cls = .normal ∧ x.epoch = r.epoch)) ∧
        ∀ x ∈ back.head?, x.state = .queued ∧ x.cls = .normal ∧ x.epoch = r.epoch) ∧
      exec .submit s = .next (State.answered
        { (s.setQueue w (front ++ r :: back)) with epoch := if barrier then s.epoch + 2 else s.epoch }
        rest 0x01#8 .accepted (wordBytes tag ++ wordBytes r.epoch ++ [byteOf front.length]))

/-- The checks of a SUBMIT in the order of R150, the first that fails reported; with none failing it is accepted. -/
def Obligations.SubmitCheckOrder : Prop :=
  ∀ (s : State) (m : Message) (rest : List Message), s.offers m rest → m.headD 0#8 = 0x01#8 →
    let w : Fin 6 := Fin.ofNat 6 (byteAt m 3).toNat
    let p := (s.window w).profile
    let ops := (submittedOps m).getD []
    s.refusedFirst .submit 0x01#8 rest [byteAt m 1, byteAt m 2] [
      (decide (m.length < 7), .badFormat),
      (decide (wordAt m 1 = 0#16), .badTag),
      (decide (5 < (byteAt m 3).toNat), .badWindow),
      (decide ((s.window w).state = .disabled), .windowDisabled),
      (decide ((s.window w).state = .faulted), .windowFaulted),
      (decide (submittedOps m = none), .badOperation),
      (decide (1 < (byteAt m 4).toNat ∨ 1 < (byteAt m 5).toNat ∨ ∃ op ∈ ops, op.fitsWidth p.width = false), .badValue),
      (decide (∃ op ∈ ops, op.fitsAddress p.addressBits = false), .addrRange),
      (decide (192 < resultSize p.width ops), .resultTooLarge),
      (decide (∃ r ∈ s.live, r.tag = wordAt m 1), .dupTag),
      (decide (48 ≤ s.live.length ∨ (byteAt m 5 = 1#8 ∧ 94 < s.epochReach)), .poolFull),
      (decide (p.queueLimit ≤ (s.queue w).length), .queueFull)]

/-- What the checks of a SUBMIT measure of each operation: the values whose high bytes must be 0 at width 8, the last address reached,
the bytes that could be appended, and the access of each unit (R25, R27). -/
def Obligations.OperationMeasures : Prop :=
  ∀ (a v k o x y : Word) (vs : List Word) (inc ret : Bool) (n i t u : Nat) (l : Fin 8) (c : ScanCond),
    let unit := if inc then a + BitVec.ofNat 16 u else a
    ([Op.write a v, .writeBlock a inc vs, .read a n inc, .modify a k o ret, .poll a x y i t, .scan a n inc x y c ret,
      .waitAttention l t, .delay i].map fun op =>
        (op.values, op.lastAddress, op.resultSize .w8, op.resultSize .w16, op.access? u)) =
    [([v], some a.toNat, 0, 0, some (.write, a, v)),
      (vs, some (if inc then a.toNat + vs.length - 1 else a.toNat), 0, 0, some (.write, unit, vs.getD u 0#16)),
      ([], some (if inc then a.toNat + n - 1 else a.toNat), n, 2 * n, some (.read, unit, 0#16)),
      ([k, o], some a.toNat, if ret then 1 else 0, if ret then 2 else 0, some (.read, a, 0#16)),
      ([x, y], some a.toNat, 0, 0, some (.read, a, 0#16)),
      ([x, y], some (if inc then a.toNat + n - 1 else a.toNat), 2, 2, some (.read, unit, 0#16)),
      ([], none, 0, 0, none), ([], none, 0, 0, none)] ∧
    (∀ op : Op, op.fitsWidth .w16 = true ∧ (op.fitsWidth .w8 = true ↔ ∀ z ∈ op.values, z.toNat < 256)) ∧
    ∀ (op : Op) (bits : Nat), op.fitsAddress bits = true ↔ ∀ z ∈ op.lastAddress, z < 2 ^ bits

/-- A CANCEL that finds its record QUEUED, READY or PARKED ends it CANCELLED by cancel: its tag leaves the waiter list it stands on,
the record leaves its queue and joins the backlog, and nothing else changes (R109, R110). One that finds it RUNNING marks it, and where
no access is in progress the record ends CANCELLED in that event; one that finds it marked changes nothing (R105, R107, R111). -/
def Obligations.Cancel : Prop :=
  (∀ (s : State) (rest : List Message) (w : Fin 6) (front back : List Record) (r : Record),
      s.offers ([0x02#8] ++ wordBytes r.tag) rest → r.tag ≠ 0#16 → s.tagsDistinct = true → s.queue w = front ++ r :: back →
      r.state = .queued ∨ r.state = .ready ∨ r.state = .parked →
      let t := match r.wake with
        | some (.attention l _) =>
          s.setLine l { s.line l with waiters := (s.line l).waiters.filter fun x => decide (x ≠ r.tag) }
        | some (.timer _) | none => s
      exec .cancel s = .next (State.answered
        ((t.setQueue w (front ++ back)).joinBacklog [r.ended (.cancelled .byCancel) r.opIndex none 0])
        rest 0x02#8 .accepted (wordBytes r.tag ++ [if r.state = .queued then 0#8 else 1#8]))) ∧
  ∀ (s : State) (rest : List Message) (w : Fin 6) (r : Record) (back : List Record),
    s.offers ([0x02#8] ++ wordBytes r.tag) rest → r.tag ≠ 0#16 → s.tagsDistinct = true → s.sch.grant = some w →
    s.queue w = r :: back → r.state = .running →
    let marked := { r with abort := some .byCancel }
    (r.abort = none → s.bus.access = none →
      exec .cancel s = .next (State.answered ((s.retireHead w (marked.ended (.cancelled .byCancel) r.opIndex none 0)).releaseAt w)
        rest 0x02#8 .accepted (wordBytes r.tag ++ [2#8]))) ∧
    (∀ a, r.abort = none → s.bus.access = some a →
      exec .cancel s = .next (State.answered (s.setQueue w (marked :: back)) rest 0x02#8 .accepted (wordBytes r.tag ++ [2#8]))) ∧
    ∀ c, r.abort = some c → exec .cancel s = .next (s.answered rest 0x02#8 .accepted (wordBytes r.tag ++ [3#8]))

/-- The checks of a CANCEL in the order of R108: tag 0, no live record, a record in COMPLETING; with none failing it is accepted. -/
def Obligations.CancelCheckOrder : Prop :=
  ∀ (s : State) (m : Message) (rest : List Message), s.offers m rest → m.headD 0#8 = 0x02#8 →
    s.refusedFirst .cancel 0x02#8 rest [byteAt m 1, byteAt m 2] [
      (decide (m.length ≠ 3), .badFormat),
      (decide (wordAt m 1 = 0#16), .badTag),
      (decide (∀ r ∈ s.live, r.tag ≠ wordAt m 1), .unknownTag),
      (decide (∀ r ∈ s.busSide, r.tag ≠ wordAt m 1), .tooLate)]

/-- A FLUSH empties the queue into the backlog in queue order, each member CANCELLED by flush; a RUNNING head stays, marked, while its
access is in progress, and else ends with the cause it is marked with, first of them (R113, R107, R114; log entry 10). -/
def Obligations.Flush : Prop :=
  ∀ (s : State) (rest : List Message), s.disciplined = true →
    (∀ b : Byte, 5 < b.toNat → s.offers [0x03#8, b] rest → exec .flush s = .next (s.answered rest 0x03#8 .badWindow [b])) ∧
    ∀ w : Fin 6, s.offers [0x03#8, byteOf w.val] rest →
      (s.queue w = [] → exec .flush s = .next (s.answered rest 0x03#8 .accepted [byteOf w.val, 0#8, 0#8])) ∧
      ∀ (r : Record) (back : List Record), s.queue w = r :: back →
        let gone := fun x : Record => x.ended (.cancelled .byFlush) x.opIndex none 0
        let cause := r.abort.getD .byFlush
        (r.state ≠ .running → exec .flush s = .next (State.answered
          (((s.dropWake r).setQueue w []).joinBacklog (gone r :: back.map gone))
          rest 0x03#8 .accepted [byteOf w.val, byteOf (back.length + 1), 0#8])) ∧
        (∀ a, r.state = .running → s.bus.access = some a → exec .flush s = .next (State.answered
          ((s.setQueue w [{ r with abort := some cause }]).joinBacklog (back.map gone))
          rest 0x03#8 .accepted [byteOf w.val, byteOf back.length, 1#8])) ∧
        (r.state = .running → s.bus.access = none → exec .flush s = .next (State.answered
          { ((s.setQueue w []).joinBacklog
              (({ r with abort := some cause }).ended (.cancelled cause) r.opIndex none 0 :: back.map gone)) with sch.grant := none }
          rest 0x03#8 .accepted [byteOf w.val, byteOf (back.length + 1), 0#8]))

/-- An accepted CONFIGURE WINDOW replaces the profile, makes the window ENABLED or DISABLED, and treats the recovery timer as R60
says: a change of CS polarity on driven pins starts it, a change to SCRATCH ends the constraint, a change to PINS starts without one.
Model choices: log entry 22. -/
def Obligations.ConfigureAccepted : Prop :=
  ∀ (s : State) (rest : List Message) (w : Fin 6) (p : Profile) (enable : Bool),
    s.offers ([0x04#8, byteOf w.val] ++ p.bytes ++ [flagByte enable]) rest → p.inRange = true → p.legal = true → s.queue w = [] →
    let old := (s.window w).profile
    let recovery :=
      if old.target = .pins ∧ p.target = .scratch then none
      else if old.csPolarity ≠ p.csPolarity ∧ s.bus.ownership = .owned then some s.now
      else if old.target = .scratch ∧ p.target = .pins then none
      else s.bus.recovery[w]
    exec .configureWindow s = .next (State.answered
      { (s.setWindow w { state := if enable then .enabled else .disabled, profile := p, queue := [] }) with
        bus.recovery := s.bus.recovery.set w.val recovery w.isLt }
      rest 0x04#8 .accepted [byteOf w.val, flagByte enable])

/-- The checks of a CONFIGURE WINDOW in the order of R58, and the combinations of R59 that are refused BAD_VALUE. -/
def Obligations.ConfigureCheckOrder : Prop :=
  (∀ p : Profile, p.legal = false ↔ (p.target = .pins ∧ p.width = .w8 ∧ p.addressMode = .single ∧ 8 < p.addressBits) ∨
    (p.target = .scratch ∧ p.width = .w8 ∧ 9 < p.addressBits) ∨ (p.target = .scratch ∧ p.width = .w16 ∧ 8 < p.addressBits)) ∧
  ∀ (s : State) (m : Message) (rest : List Message), s.offers m rest → m.headD 0#8 = 0x04#8 →
    s.refusedFirst .configureWindow 0x04#8 rest [byteAt m 1] [
      (decide (m.length ≠ 22), .badFormat),
      (decide (5 < (byteAt m 1).toNat), .badWindow),
      (decide (profileAt m 2 = none ∨ 1 < (byteAt m 21).toNat), .badValue),
      ((profileAt m 2).any (fun p => !p.legal), .badValue),
      (decide (s.queue (Fin.ofNat 6 (byteAt m 1).toNat) ≠ []), .busy)]

/-- CLEAR FAULT of a FAULTED window makes it ENABLED; with RESUME its queue stays, with DISCARD its members end CANCELLED by fault
discard and join the backlog in queue order (R117, R118). -/
def Obligations.ClearFault : Prop :=
  ∀ (s : State) (m : Message) (rest : List Message), s.offers m rest → m.headD 0#8 = 0x05#8 →
    s.refusedFirst .clearFault 0x05#8 rest [byteAt m 1] [
      (decide (m.length ≠ 3), .badFormat),
      (decide (5 < (byteAt m 1).toNat), .badWindow),
      (decide (1 < (byteAt m 2).toNat), .badValue),
      (decide ((s.window (Fin.ofNat 6 (byteAt m 1).toNat)).state ≠ .faulted), .notFaulted)] ∧
    ∀ w : Fin 6, (s.window w).state = .faulted →
      (m = [0x05#8, byteOf w.val, 0#8] → exec .clearFault s = .next (State.answered
        (s.setWindow w { s.window w with state := .enabled }) rest 0x05#8 .accepted [byteOf w.val, 0#8])) ∧
      (m = [0x05#8, byteOf w.val, 1#8] → exec .clearFault s = .next (State.answered
        ((s.setWindow w { s.window w with state := .enabled, queue := [] }).joinBacklog
          ((s.queue w).map fun r => r.ended (.cancelled .byFaultDiscard) r.opIndex none 0))
        rest 0x05#8 .accepted [byteOf w.val, byteOf (s.queue w).length]))

/-- SETUP ATTENTION replaces a line's configuration and clears its events, keeping its filtered level and last edge and timing a pending
change afresh; ACKNOWLEDGE ATTENTION clears the outstanding flag; each with its checks in order (R139, R140, R141, R127,
R131). That a pending change is always timed afresh, since the input differs exactly while one is pending, is the model's reading (log
entry 20). -/
def Obligations.LineRequests : Prop :=
  ∀ (s : State) (m : Message) (rest : List Message), s.offers m rest →
    (m.headD 0#8 = 0x06#8 → s.refusedFirst .setupAttention 0x06#8 rest [byteAt m 1] [
      (decide (m.length ≠ 6), .badFormat),
      (decide (7 < (byteAt m 1).toNat), .badLine),
      (decide (5 < (byteAt m 2).toNat ∨ 3 < (byteAt m 3).toNat ∨ 1 < (byteAt m 5).toNat), .badValue),
      (decide ((s.line (Fin.ofNat 8 (byteAt m 1).toNat)).waiters ≠ []), .busy)]) ∧
    (∀ (l : Fin 8) (mode : LineMode) (priority : Fin 4) (filter : Byte) (report : Bool),
      m = [0x06#8, byteOf l.val, mode.byte, byteOf priority.val, filter, flagByte report] → (s.line l).waiters = [] →
      ∃ t, exec .setupAttention s = .next (State.answered t rest 0x06#8 .accepted [byteOf l.val]) ∧
        s.lineCleared t l { s.line l with
          mode := mode, priority := priority.val, filter := filter.toNat, report := report
          lost := false, outstanding := false, pendingChange := (s.line l).pendingChange.map fun c => (c.1, s.now) }) ∧
    (m.headD 0#8 = 0x07#8 → s.refusedFirst .acknowledgeAttention 0x07#8 rest [byteAt m 1] [
      (decide (m.length ≠ 2), .badFormat),
      (decide (7 < (byteAt m 1).toNat), .badLine),
      (decide ((s.line (Fin.ofNat 8 (byteAt m 1).toNat)).outstanding = false), .notOutstanding)]) ∧
    ∀ l : Fin 8, m = [0x07#8, byteOf l.val] → (s.line l).outstanding = true →
      exec .acknowledgeAttention s = .next (State.answered (s.setLine l { s.line l with outstanding := false })
        rest 0x07#8 .accepted [byteOf l.val])

/-- HOLD and RESUME (R81 to R84). A HOLD that finds the flag set says so; one that finds it clear sets it, and is answered HELD at once
or, with an access in progress, when that is over; a transaction that waits at a boundary becomes READY. RESUME clears the flag. -/
def Obligations.HoldAndResume : Prop :=
  ∀ (s : State) (rest : List Message),
    (s.offers [0x08#8] rest →
      (s.sch.hold = true → exec .hold s = .next (s.answered rest 0x08#8 .accepted [1#8])) ∧
      (∀ a, s.sch.hold = false → s.bus.access = some a → exec .hold s = .next { s with
        sch.hold := true, lnk.intake := rest, dsp := { count := s.dsp.count + 1, slot := none, holdWait := some (s.dsp.count + 1) } }) ∧
      (s.sch.hold = false → s.bus.access = none → s.running = none →
        exec .hold s = .next (State.answered { s with sch.hold := true } rest 0x08#8 .held [0#8])) ∧
      ∀ (w : Fin 6) (r : Record) (op : Op), s.sch.hold = false → s.bus.access = none → s.running = some (w, r) → r.abort = none →
        r.op? = some op → (op.access? r.unitIndex).isSome = true →
        exec .hold s = .next (State.answered
          (({ (s.setHead w { r with state := .ready }) with sch.hold := true, sch.grant := none } : State).releaseAt w)
          rest 0x08#8 .held [0#8])) ∧
    (s.offers [0x09#8] rest →
      (s.sch.hold = true → exec .resume s = .next (State.answered { s with sch.hold := false } rest 0x09#8 .accepted [])) ∧
      (s.sch.hold = false → exec .resume s = .next (s.answered rest 0x09#8 .notHeld []))) ∧
    ∀ count, s.dsp.holdWait = some count →
      s.answerHold = { s with
        dsp.holdWait := none
        dsp.slot := some { kind := 0x08#8, count := count, code := .held, body := [0#8] } }

/-- SET SHARING is refused in the order of R100, and an accepted one replaces both settings; with sharing enabled and BREQ asserted
the release begins at once where no access is in progress, and a transaction waiting at a boundary is displaced (R100, R101). Model
choices: log entry 16. -/
def Obligations.SetSharing : Prop :=
  ∀ (s : State) (rest : List Message) (e : Byte) (limit : Word), s.offers ([0x0A#8, e] ++ wordBytes limit) rest →
    s.refusedFirst .setSharing 0x0A#8 rest [] [(decide (1 < e.toNat), .badValue), (decide (s.bus.ownership = .released), .busy)] ∧
    (e.toNat ≤ 1 → s.bus.ownership = .owned →
      let t : State := { s with bus.shareEnable := decide (e = 1#8), bus.shareLimit := limit.toNat }
      let away := fun (u : State) (displaced : Option (Fin 6)) => { u with
        bus.ownership := .released
        bus.release := some { at_ := s.now, start := none, displaced := displaced, overrun := false } }
      let yes := fun u : State => exec .setSharing s = .next (State.answered u rest 0x0A#8 .accepted (e :: wordBytes limit))
      (e = 0#8 ∨ s.breq = false ∨ s.bus.access ≠ none → yes t) ∧
      (e = 1#8 → s.breq = true → s.bus.access = none → s.running = none → yes (away t none)) ∧
      ∀ (w : Fin 6) (r : Record) (op : Op), e = 1#8 → s.breq = true → s.bus.access = none → s.running = some (w, r) →
        r.abort = none → r.op? = some op → (op.access? r.unitIndex).isSome = true →
        yes (away { (t.setHead w { r with state := .ready }) with sch.grant := none } (some w)))

/-- SET LINK replaces the retransmission timeout for a value of 5 to 200 ms and leaves a running timer its deadline, any other value is
refused BAD_VALUE (R158); QUERY LINK gives the seven counters and the timeout, and with the clear flag makes every counter 0 after it
has been read (R157). -/
def Obligations.LinkRequests : Prop :=
  ∀ (s : State) (rest : List Message) (b : Byte),
    (s.offers [0x0B#8, b] rest →
      exec .setLink s = .next (if 5 ≤ b.toNat ∧ b.toNat ≤ 200 then
          State.answered { s with lnk.timeout := b.toNat } rest 0x0B#8 .accepted [b]
        else s.answered rest 0x0B#8 .badValue [])) ∧
    (s.offers [0x11#8, b] rest →
      (1 < b.toNat → exec .queryLink s = .next (s.answered rest 0x11#8 .badValue [])) ∧
      (b.toNat ≤ 1 → exec .queryLink s = .next (State.answered
        { s with lnk.counters := if b = 1#8 then ⟨0, 0, 0, 0, 0, 0, 0⟩ else s.lnk.counters } rest 0x11#8 .accepted
        (([s.lnk.counters.crc, s.lnk.counters.gap, s.lnk.counters.duplicate, s.lnk.counters.outOfOrder, s.lnk.counters.intakeFull,
          s.lnk.counters.retransmission, s.lnk.counters.resync].flatMap natBytes) ++ [byteOf s.lnk.timeout]))))

/-- QUERY DEVICE is answered with the 13 bytes of Table 11–7 that carry the values of R153; QUERY ATTENTION with the 11 bytes of each
line, ATN0 to ATN7 (R156). QUERY WINDOW gives the state, the profile, the queue length, and the tag and state of the head (R154);
QUERY TRANSACTION the window, state, operation index (operations completed when COMPLETING) and abort request of the live record (R155).
None of them changes anything. -/
def Obligations.Queries : Prop :=
  (∀ (s : State) (rest : List Message),
      (s.offers [0x0D#8] rest → exec .queryDevice s = .next (s.answered rest 0x0D#8 .accepted
        ([0x20#8, 0x41#8, 0x01#8, byteOf (48 - (s.busSide.length + s.rpt.backlog.length)), byteOf s.rpt.queue.length,
          byteOf s.rpt.backlog.length, flagByte s.sch.hold, flagByte (decide (s.bus.ownership = .released)), flagByte s.bus.shareEnable]
          ++ natBytes s.bus.shareLimit ++ wordBytes s.epoch))) ∧
      (s.offers [0x10#8] rest → exec .queryAttention s = .next (s.answered rest 0x10#8 .accepted
        (([0, 1, 2, 3, 4, 5, 6, 7] : List (Fin 8)).flatMap fun l => let x := s.line l
          [match x.mode with | .off => 0#8 | .levelHigh => 1#8 | .levelLow => 2#8 | .rise => 3#8 | .fall => 4#8 | .both => 5#8,
            byteOf x.priority, byteOf x.filter, flagByte x.report, flagByte x.level, byteOf x.count, flagByte x.lost,
            if x.lastEdge = .rise then 0#8 else 1#8, byteOf (x.stamp.getD 0), flagByte x.outstanding, byteOf x.waiters.length])))) ∧
  ∀ (s : State) (rest : List Message),
    (∀ b : Byte, s.offers [0x0E#8, b] rest → 5 < b.toNat → exec .queryWindow s = .next (s.answered rest 0x0E#8 .badWindow [b])) ∧
    (∀ w : Fin 6, s.offers [0x0E#8, byteOf w.val] rest →
      exec .queryWindow s = .next (s.answered rest 0x0E#8 .accepted
        ([match (s.window w).state with | .disabled => 0#8 | .enabled => 1#8 | .faulted => 2#8]
          ++ (s.window w).profile.bytes ++ [byteOf (s.queue w).length]
          ++ wordBytes (((s.queue w).head?.map Record.tag).getD 0#16)
          ++ [match (s.queue w).head?.map Record.state with
            | none => 0#8 | some .queued => 1#8 | some .running => 2#8 | some .parked => 3#8 | some .ready => 4#8
            | some .completing => 5#8]))) ∧
    ∀ tag : Word, s.offers ([0x0F#8] ++ wordBytes tag) rest →
      (tag = 0#16 → exec .queryTransaction s = .next (s.answered rest 0x0F#8 .badTag (wordBytes tag))) ∧
      (tag ≠ 0#16 → (∀ r ∈ s.live, r.tag ≠ tag) →
        exec .queryTransaction s = .next (s.answered rest 0x0F#8 .unknownTag (wordBytes tag))) ∧
      ∀ r ∈ s.live, tag ≠ 0#16 → r.tag = tag → s.tagsDistinct = true →
        exec .queryTransaction s = .next (s.answered rest 0x0F#8 .accepted [byteOf r.window.val,
          match r.state with | .queued => 1#8 | .running => 2#8 | .parked => 3#8 | .ready => 4#8 | .completing => 5#8,
          byteOf (if r.state = .completing then r.opsCompleted else r.opIndex), if r.abort = none then 0#8 else 1#8])

/-! ## The host link -/

/-- An acknowledgement value that names 1 to u frames releases them: the retry count becomes 0, the timer restarts or stops, and a resend
point on a released frame moves to the oldest that remains. Any other value changes nothing (R181). A valid ACK in UP is acted on so. A
valid NAK is too, and when the oldest frame left has its number, every frame is due again from it and the timer restarts (R183). Model
choices: log entry 13. -/
def Obligations.Acknowledgement : Prop :=
  (∀ (s : State) (a : SeqNum), (s.lnk.replay = [] → s.acknowledge a = s) ∧
      ∀ (o : ReplayFrame) (more : List ReplayFrame), s.lnk.replay = o :: more →
        let d := (a - o.seq).toNat
        let gone := s.lnk.replay.take d
        let left := s.lnk.replay.drop d
        (d = 0 ∨ more.length + 1 < d → s.acknowledge a = s) ∧
        (1 ≤ d → d ≤ more.length + 1 → s.acknowledge a = { s with
          lnk.replay := left
          lnk.retry := 0
          lnk.timer := if ∃ x ∈ left, x.sent = .ended then some (s.now + Config.ms s.lnk.timeout) else none
          lnk.resendPoint := s.lnk.resendPoint.bind fun n => left.head?.map fun x => if ∃ y ∈ gone, y.seq = n then x.seq else n })) ∧
  ∀ (s : State) (g : List Byte), s.lnk.gathered = some g → frameValid g = true → s.lnk.state = .up →
    let u := State.acknowledge { s with lnk.gathered := none } (frameAck g)
    (frameControl g = 0x02#8 → exec .ackFrame s = .next u.transmit) ∧
    (frameControl g = 0x03#8 →
      (u.lnk.replay.head?.map ReplayFrame.seq ≠ some (frameAck g) → exec .nakFrame s = .next u.transmit) ∧
      (u.lnk.replay.head?.map ReplayFrame.seq = some (frameAck g) → exec .nakFrame s = .next (State.transmit { u with
        lnk.resendPoint := some (frameAck g)
        lnk.timer := if ∃ x ∈ u.lnk.replay, x.sent = .ended then some (s.now + Config.ms s.lnk.timeout) else none })))

/-- A valid DATA frame in UP is acted on as an acknowledgement, then sorted by its sequence: accepted in order, dropped when the Intake
Queue holds 8, a duplicate that requests an acknowledgement, or out of order, which makes a NAK due (R176, R177, R178,
R180, R181). The transmitter then begins the first frame due, after the take of a report that the same event lets in (R165, R185; log
entry 1). An accepted frame leaves a NAK that an out-of-order frame made due (R180): log entry 35. -/
def Obligations.DataFrame : Prop :=
  (∀ s : State, s.transmitAfterTakes = if s.canReport = true then s else s.transmit) ∧
  ∀ (s : State) (g : List Byte), s.lnk.gathered = some g → frameValid g = true → frameControl g = 0x01#8 → s.lnk.state = .up →
    let u := State.acknowledge { s with lnk.gathered := none } (frameAck g)
    let d := (frameSeq g - s.lnk.rxExpected).toNat
    (d = 0 → s.lnk.intake.length < 8 → exec .dataFrame s = .next (State.transmitAfterTakes { u with
      lnk.intake := s.lnk.intake ++ [frameMessage g]
      lnk.rxExpected := s.lnk.rxExpected + 1
      lnk.nak := .clear
      lnk.ackOwed := if s.lnk.ackOwed = .none then .since s.now else s.lnk.ackOwed })) ∧
    (d = 0 → 8 ≤ s.lnk.intake.length → exec .dataFrame s = .next (State.transmitAfterTakes { u with
      lnk.counters.intakeFull := min 65535 (s.lnk.counters.intakeFull + 1) })) ∧
    (12 ≤ d → exec .dataFrame s = .next (State.transmitAfterTakes { u with
      lnk.counters.duplicate := min 65535 (s.lnk.counters.duplicate + 1)
      lnk.ackOwed := .requested })) ∧
    (1 ≤ d → d ≤ 11 → exec .dataFrame s = .next (State.transmitAfterTakes { u with
      lnk.counters.outOfOrder := min 65535 (s.lnk.counters.outOfOrder + 1)
      lnk.nakOutOfOrder := true }))

/-- A host RESYNC in any link state: a reply is due before every other frame, both sequences begin again, the replay buffer is
numbered from 0 and due from its oldest frame, timers and what is owed are cleared, and the link is UP (R186). Model choices: log
entries 11, 14, 35, 36, 38. -/
def Obligations.ResyncTaken : Prop :=
  ∀ (s : State) (g : List Byte), s.lnk.gathered = some g → frameValid g = true → frameControl g = 0x04#8 →
    exec .resync s = .next (State.transmit { s with
      lnk.gathered := none
      lnk.state := .up
      lnk.resyncReplyDue := true
      lnk.resyncDue := false
      lnk.rxExpected := 0#4
      lnk.txNext := BitVec.ofNat 4 s.lnk.replay.length
      lnk.replay := s.lnk.replay.mapIdx fun i x => { x with seq := BitVec.ofNat 4 i }
      lnk.resendPoint := if s.lnk.replay = [] then none else some 0#4
      lnk.retry := 0
      lnk.timer := none
      lnk.announce := none
      lnk.ackOwed := .none
      lnk.nak := .clear
      lnk.nakOutOfOrder := false
      lnk.counters.resync := min 65535 (s.lnk.counters.resync + 1)
      lnk.tx := s.lnk.tx.map fun f => { f with kind := match f.kind with | .data _ => .data none | k => k } })

/-- A valid RESYNC-REPLY of the host, a valid frame of an unknown Control byte, and outside UP a valid DATA, ACK or NAK frame are
discarded without any effect (R175, R187, Table 10–2). A frame whose CRC does not agree, and a partial frame cut off by a gap of 2 ms,
are discarded and counted in any link state; in UP one NAK becomes due while the NAK state is clear (R174, R175, R180, R189). Model
choices: log entry 3. -/
def Obligations.DiscardedFrames : Prop :=
  (∀ (s : State) (g : List Byte), s.lnk.gathered = some g → frameValid g = true →
    let gone : Host.Outcome State Fault Refusal := .next { s with lnk.gathered := none }
    (frameControl g = 0x05#8 → exec .hostResyncReply s = gone) ∧
    (frameControl g = 0#8 ∨ 5 < (frameControl g).toNat → exec .unknownControlFrame s = gone) ∧
    (s.lnk.state ≠ .up →
      (frameControl g = 0x01#8 → exec .dataFrame s = gone) ∧ (frameControl g = 0x02#8 → exec .ackFrame s = gone) ∧
      (frameControl g = 0x03#8 → exec .nakFrame s = gone))) ∧
  ∀ s : State,
    let nak := if s.lnk.state = .up ∧ s.lnk.nak = .clear then .due else s.lnk.nak
    (∀ g, s.lnk.gathered = some g → crcBytes (g.take (g.length - 2)) ≠ g.drop (g.length - 2) →
      exec .crcError s = .next (State.transmit { s with
        lnk.gathered := none
        lnk.counters.crc := min 65535 (s.lnk.counters.crc + 1)
        lnk.nak := nak })) ∧
    ∀ bytes since, s.quietTo (max s.now (since + Config.ms 2)) = true → s.lnk.receiver = .inside bytes since →
      exec .gapError s = .next (State.transmit { s with
        now := max s.now (since + Config.ms 2)
        lnk.receiver := .hunting
        lnk.counters.gap := min 65535 (s.lnk.counters.gap + 1)
        lnk.nak := nak })

/-- A byte received while hunting begins a frame when it is 0x5A; after it a Length of 2 to 246 is gathered, and any other byte is
itself examined; inside a frame bytes are gathered until Length and two more have come, and the frame then awaits its check (R174).
Model choices: log entry 1. -/
def Obligations.ByteReceived : Prop :=
  ∀ (s : State) (b : Byte), s.quiet = true →
    let hunted := if b = 0x5A#8 then Receiver.inside [] s.now else .hunting
    (s.lnk.receiver = .hunting → exec (.byteReceived b) s = .next { s with lnk.receiver := hunted }) ∧
    (∀ since, s.lnk.receiver = .inside [] since →
      exec (.byteReceived b) s = .next { s with
        lnk.receiver := if 2 ≤ b.toNat ∧ b.toNat ≤ 246 then .inside [b] s.now else hunted }) ∧
    ∀ len more since, s.lnk.receiver = .inside (len :: more) since →
      (more.length + 2 ≠ len.toNat + 3 →
        exec (.byteReceived b) s = .next { s with lnk.receiver := .inside (len :: more ++ [b]) s.now }) ∧
      (more.length + 2 = len.toNat + 3 →
        exec (.byteReceived b) s = .next { s with lnk.receiver := .hunting, lnk.gathered := some (len :: more ++ [b]) })

/-- The timers of the link: an acknowledgement owed 1 ms becomes requested (R179); an expiry of the retransmission timer makes every
frame due again, and the eighth without progress stalls the link (R184); the announce timer makes a RESYNC due every 100 ms (R187).
Model choices: log entries 3, 13. -/
def Obligations.LinkTimers : Prop :=
  ∀ s : State,
    (∀ t, s.quietTo (max s.now (t + Config.ms 1)) = true → s.lnk.ackOwed = .since t →
      exec .ackRequested s = .next (State.transmit { s with now := max s.now (t + Config.ms 1), lnk.ackOwed := .requested })) ∧
    (∀ d (x : ReplayFrame) more, s.quietTo (max s.now d) = true → s.lnk.state = .up → s.lnk.timer = some d →
      s.lnk.replay = x :: more → s.lnk.retry < 7 →
      exec .retransmissionTimeout s = .next (State.transmit { s with
        now := max s.now d
        lnk.retry := s.lnk.retry + 1
        lnk.resendPoint := some x.seq
        lnk.timer := if ∃ y ∈ s.lnk.replay, y.sent = .ended then some (max s.now d + Config.ms s.lnk.timeout) else none })) ∧
    (∀ d, s.quietTo (max s.now d) = true → s.lnk.state = .up → s.lnk.timer = some d → 7 ≤ s.lnk.retry →
      exec .retransmissionTimeout s = .next (State.transmit { s with
        now := max s.now d
        lnk.retry := s.lnk.retry + 1
        lnk.state := .stalled
        lnk.timer := none
        lnk.announce := some (max s.now d + Config.ms 100)
        lnk.resyncDue := true })) ∧
    ∀ d, s.quietTo (max s.now d) = true → s.lnk.state ≠ .up → s.lnk.announce = some d →
      exec .announceTimer s = .next (State.transmit { s with
        now := max s.now d
        lnk.announce := some (max s.now d + Config.ms 100)
        lnk.resyncDue := true })

/-- The end of a frame on TXD: after a RESYNC-REPLY the reset cause is NONE (R186); a DATA frame of the buffer has ended its
transmission, and in UP a stopped timer starts (R182); then the next frame that is due begins (R185). The clock has passed the frame's
bits. Model choices: log entries 3, 12, 14, 24. -/
def Obligations.FrameTransmitEnd : Prop :=
  ∀ (s : State) (f : TxFrame), s.lnk.tx = some f →
    let now := max s.now (f.begun + frameTicks s.lnk.baud f.bytes)
    s.quietTo now = true →
    (f.kind = .resyncReply →
      exec .frameTransmitEnd s = .next (State.transmit { s with now := now, lnk.tx := none, lnk.cause := .none })) ∧
    (f.kind = .resync ∨ f.kind = .nak ∨ f.kind = .ack ∨ f.kind = .data none →
      exec .frameTransmitEnd s = .next (State.transmit { s with now := now, lnk.tx := none })) ∧
    ∀ serial, f.kind = .data (some serial) →
      exec .frameTransmitEnd s = .next (State.transmit { s with
        now := now
        lnk.tx := none
        lnk.replay := s.lnk.replay.map fun x => if x.report.serial = serial then { x with sent := .ended } else x
        lnk.timer := if s.lnk.state = .up ∧ s.lnk.timer = none ∧ ∃ x ∈ s.lnk.replay, x.report.serial = serial
          then some (now + Config.ms s.lnk.timeout) else s.lnk.timer })

/-- With TXD idle the transmitter begins the first frame due in the order of R185, with the bytes of R190, and a DATA, ACK or NAK
frame satisfies an owed acknowledgement (R179); with a frame on TXD, or none due, it begins nothing. One NAK frame answers
both the NAK state and an out-of-order frame. Model choices: log entries 26, 35, 37. -/
def Obligations.TransmitPrecedence : Prop :=
  ∀ s : State, (s.lnk.tx ≠ none → s.transmit = s) ∧ (s.lnk.tx = none →
    let tx := fun kind control sa msg => some { kind := kind, bytes := frameBytes control sa msg, begun := s.now : TxFrame }
    let announce := fun cause : ResetCause => [0x20#8, 0x41#8, 0x01#8, cause.byte, 6#8, 48#8, 32#8, 8#8, 4#8]
      ++ wordBytes s.rpt.serial ++ wordBytes s.dsp.count
    let ack := seqAck 0#4 s.lnk.rxExpected
    let data := fun (x : ReplayFrame) (resend : Option SeqNum) => { s with
      lnk.tx := tx (.data (some x.report.serial)) 0x01#8 (seqAck x.seq s.lnk.rxExpected) x.report.bytes
      lnk.ackOwed := .none
      lnk.resendPoint := resend
      lnk.replay := if x.sent = .notBegun then
        s.lnk.replay.map fun y => if y.report.serial = x.report.serial then { y with sent := .begun } else y else s.lnk.replay
      lnk.counters.retransmission := if x.sent = .notBegun then s.lnk.counters.retransmission
        else min 65535 (s.lnk.counters.retransmission + 1) }
    let noResend := ∀ y ∈ s.lnk.replay, s.lnk.resendPoint ≠ some y.seq
    (s.lnk.resyncReplyDue = true →
      s.transmit = { s with lnk.tx := tx .resyncReply 0x05#8 0#8 (announce s.lnk.cause), lnk.resyncReplyDue := false }) ∧
    (s.lnk.resyncReplyDue = false → s.lnk.state ≠ .up →
      s.transmit = if s.lnk.resyncDue then { s with
        lnk.tx := tx .resync 0x04#8 0#8 (announce (if s.lnk.state = .start then s.lnk.cause else .none))
        lnk.resyncDue := false } else s) ∧
    (s.lnk.resyncReplyDue = false → s.lnk.state = .up →
      (s.lnk.nak = .due ∨ s.lnk.nakOutOfOrder = true → s.transmit = { s with
        lnk.tx := tx .nak 0x03#8 ack [], lnk.ackOwed := .none, lnk.nak := .sent, lnk.nakOutOfOrder := false }) ∧
      (s.lnk.nak ≠ .due → s.lnk.nakOutOfOrder = false →
        (∀ before x after, s.lnk.replay = before ++ x :: after → s.lnk.resendPoint = some x.seq → (∀ y ∈ before, y.seq ≠ x.seq) →
          s.transmit = data x (after.head?.map ReplayFrame.seq)) ∧
        (∀ before x after, noResend → s.lnk.replay = before ++ x :: after → x.sent = .notBegun →
          (∀ y ∈ before, y.sent ≠ .notBegun) → s.transmit = data x s.lnk.resendPoint) ∧
        (noResend → (∀ y ∈ s.lnk.replay, y.sent ≠ .notBegun) →
          s.transmit = if s.lnk.ackOwed = .requested then { s with lnk.tx := tx .ack 0x02#8 ack [], lnk.ackOwed := .none } else s))))

/-! ## Reports -/

/-- In UP with fewer than 4 frames in the replay buffer the Link Controller takes the head report into a new DATA frame, numbered with
the transmit next sequence, and the transmitter may begin it; with nothing due nothing is taken (R165, R182). Model choices: log entries
1, 21. -/
def Obligations.ReportTake : Prop :=
  ∀ s : State,
    (∀ r rest, s.lnk.state = .up → s.rpt.queue = r :: rest → s.lnk.replay.length < 4 → s.due = some .report →
      exec .reportTake s = .next (State.transmit { s with
        rpt.queue := rest
        lnk.replay := s.lnk.replay ++ [{ seq := s.lnk.txNext, report := r, sent := .notBegun }]
        lnk.txNext := s.lnk.txNext + 1 })) ∧
    (s.due = none → (s.lnk.state ≠ .up ∨ s.rpt.queue = [] ∨ 4 ≤ s.lnk.replay.length) ∧ exec .reportTake s = .next s) ∧
    (s.due = some .report → s.lnk.state = .up ∧ s.rpt.queue ≠ [] ∧ s.lnk.replay.length < 4)

/-- One admission into a free entry: attention when the starvation counter is 4 and a line is eligible, else the reply, the backlog head,
the share-overrun notice, attention (R167, R168); with the effects of R138 and R169, the next serial (R163), the starvation counter of
R168, and the line of R137, which under distinct stamps is one line. The Dispatcher's taking, which R169 puts in the event of a reply's
admission, stays due after it, and what is due before an admission comes first. Model choices: log entries 1, 21. -/
def Obligations.ReportAdmission : Prop :=
  ∀ s : State,
    let some? := ∃ l, (s.line l).count ≠ 0 ∧ (s.line l).report = true ∧ (s.line l).outstanding = false ∧ (s.line l).waiters = []
    let push := fun c => s.rpt.queue ++ [{ serial := s.rpt.serial, content := c : Report }]
    let starved := if s.anyEligible then min 4 (s.rpt.starvation + 1) else 0
    let best := fun l => (s.line l).eligible = true ∧ ∀ k, k ≠ l → (s.line k).eligible = true →
      (s.line k).priority < (s.line l).priority ∨
        ((s.line k).priority = (s.line l).priority ∧ (s.line l).stamp.getD 0 < (s.line k).stamp.getD 0)
    (s.anyEligible = true ↔ some?) ∧ (s.stampsRanked = true → s.anyEligible = true → ∃ l, best l) ∧
    (s.due = none → (32 ≤ s.rpt.queue.length ∨
        (s.dsp.slot = none ∧ s.rpt.backlog = [] ∧ s.rpt.overrun = none ∧ s.anyEligible = false)) ∧
      exec .reportAdmission s = .next s) ∧
    (s.due = some .admission → s.rpt.queue.length < 32 ∧
      ((s.rpt.starvation ≠ 4 ∨ s.anyEligible = false) →
        (∀ r, s.dsp.slot = some r → exec .reportAdmission s = .next { s with
          dsp.slot := none, rpt.queue := push (.reply r), rpt.serial := s.rpt.serial + 1, rpt.starvation := starved }) ∧
        (∀ r rest, s.dsp.slot = none → s.rpt.backlog = r :: rest → exec .reportAdmission s = .next { s with
          rpt.backlog := rest
          rpt.queue := push (.completion r.tag r.window r.acceptedCount r.outcome r.opsCompleted r.failIndex r.detail r.data)
          rpt.serial := s.rpt.serial + 1
          rpt.starvation := starved }) ∧
        (∀ o, s.dsp.slot = none → s.rpt.backlog = [] → s.rpt.overrun = some o → exec .reportAdmission s = .next { s with
          rpt.overrun := none, rpt.queue := push (.shareOverrun o.limit o.window o.count), rpt.serial := s.rpt.serial + 1
          rpt.starvation := starved })) ∧
      ∀ l, best l → s.rpt.starvation = 4 ∨ (s.dsp.slot = none ∧ s.rpt.backlog = [] ∧ s.rpt.overrun = none) →
        let x := s.line l
        ∃ t, exec .reportAdmission s = .next t ∧ State.lineCleared { s with
          rpt.queue := push (.attention l x.count x.lost x.level x.lastEdge), rpt.serial := s.rpt.serial + 1
          rpt.starvation := 0 } t l { x with lost := false, outstanding := true })

/-! ## The Scheduler and the Bus Engine -/

/-- The candidates and their groups (R66, R67, Table 4–2), and the grant: on an idle engine and a usable bus the window first after the
pointer in the lowest group that holds a candidate becomes RUNNING, the grant and the pointer name it, the slice counter is 0, and the
engine settles it at its boundary; else nothing is granted (R68, R69). In a window in which a DELAY has ended the grant comes no sooner
than the recovery time after the DELAY's end, which spaces the accesses before and after it as R40 says. Model choices: log entries 3, 8,
34. -/
def Obligations.Grant : Prop :=
  ∀ s : State,
    let may := fun r : Record => ∀ q ∈ s.busSide, ¬ (1 ≤ (r.epoch - q.epoch).toNat ∧ (r.epoch - q.epoch).toNat ≤ 32767)
    (∀ (w : Fin 6) (r : Record), s.head w = some r → s.group w =
      if r.state = .ready then some (if r.cls = .urgent then 1 else 3)
      else if r.state = .queued ∧ (s.window w).state = .enabled ∧ may r then some (if r.cls = .urgent then 2 else 4)
      else none) ∧
    (∀ w, s.head w = none → s.group w = none) ∧
    ∀ starts : Bool,
      (s.quiet = true → s.sch.grant ≠ none ∨ s.sch.hold = true ∨ s.bus.ownership = .released ∨ (∀ w, s.group w = none) →
        exec (.grant starts) s = .next s) ∧
      ∀ (w : Fin 6) (r : Record) (g : Nat), s.sch.grant = none → s.sch.hold = false → s.bus.ownership = .owned →
        s.head w = some r → s.group w = some g → (∀ v h, s.group v = some h → g ≤ h) →
        (∀ v, s.group v = some g → (w - s.sch.pointer - 1).val ≤ (v - s.sch.pointer - 1).val) →
        let p := (s.window w).profile
        let u : State := { s with now := match p.target, s.bus.recovery[w], s.sch.delayEnds[w] with
          | .pins, some _, some d => max s.now (d + p.recovery)
          | .pins, some _, none | .pins, none, _ | .scratch, _, _ => s.now }
        s.quietTo u.now = true → exec (.grant starts) s = .next (State.settle (State.setHead { u with
          sch.grant := some w, sch.pointer := w, sch.slice := 0, bus.prevUnit := none } w { r with state := .running }) starts w .unit)

/-- The settlement at an access boundary takes the first of the cases of R41: failed, done, cancelled, parked, READY, or the next access
(R42, R43, R44, R34, R40, R73, R106); where the external master's request stands the bus may then be released (R101).
With `starts` false, as a grant can carry it, the next access does not begin at this boundary. Model choices: log entries 8, 16. -/
def Obligations.BoundaryOrder : Prop :=
  ∀ (s : State) (starts : Bool) (w : Fin 6) (b : Boundary) (r : Record), s.head w = some r →
    let park := fun i : Nat =>
      ((s.setHead w { r with state := .parked, wake := some (.timer (s.now + 40 * i)) }).dropGrant w).releaseAt w
    (∀ reason detail, b = .failed reason detail →
      let t := s.retireHead w (r.ended (.failed reason) r.opIndex (some r.opIndex) detail)
      s.settle starts w b = (if reason = .readyTimeout ∨ (s.window w).profile.softStop = true then
        t.setWindow w { t.window w with state := .faulted } else t).releaseAt w) ∧
    ((∀ reason detail, b ≠ .failed reason detail) →
      (b = .ended → r.ops.length ≤ r.opIndex →
        s.settle starts w b = (s.retireHead w (r.ended .done r.ops.length none 0)).releaseAt w) ∧
      (b ≠ .ended ∨ r.opIndex < r.ops.length →
        (∀ c, r.abort = some c →
          s.settle starts w b = (s.retireHead w (r.ended (.cancelled c) r.opIndex none 0)).releaseAt w) ∧
        (r.abort = none →
          (∀ a m v i n, r.op? = some (.poll a m v i n) → b = .missed → s.settle starts w b = park i) ∧
          (∀ i, r.op? = some (.delay i) → s.settle starts w b = park i) ∧
          ∀ op, r.op? = some op → (op.access? r.unitIndex).isSome = true → b ≠ .missed →
            (s.sch.hold = true ∨ s.requested = true ∨ (16 ≤ s.sch.slice ∧ s.anyCandidate = true) →
              s.settle starts w b = ((s.setHead w { r with state := .ready }).dropGrant w).releaseAt w) ∧
            (s.sch.hold = false → s.requested = false → ¬ (16 ≤ s.sch.slice ∧ s.anyCandidate = true) →
              let t : State := { s with sch.slice := if 16 ≤ s.sch.slice then 0 else s.sch.slice }
              s.settle starts w b = if starts = true ∧ s.recovering w = false then t.beginAccess w r else t))))

/-- The release of the bus at a boundary: when sharing is enabled, BREQ is asserted, the bus is OWNED and no access is in progress,
ownership becomes RELEASED with the window whose head is READY displaced (R101); and how an access begins: on the unit that progress
names, elided under R97 alone, the shared strobes at the polarities of its window (R25, R87, R88, R91). Model choices: log entry 16. -/
def Obligations.ReleaseAndBegin : Prop :=
  ∀ (s : State) (w : Fin 6),
    s.releaseAt w = (if s.bus.shareEnable = true ∧ s.breq = true ∧ s.bus.ownership = .owned ∧ s.bus.access = none then
      { s with
        bus.ownership := .released
        bus.release := some {
          at_ := s.now, start := none, overrun := false
          displaced := if (s.head w).any (fun r => decide (r.state = .ready)) then some w else none } }
      else s) ∧
    ∀ (r : Record) (op : Op) (kind : AccessKind) (addr value : Word), r.op? = some op → op.access? r.unitIndex = some (kind, addr, value) →
      let p := (s.window w).profile
      let elided := p.target = .pins ∧ p.addressMode ≠ .direct ∧ p.elide = true ∧ op.increments = true ∧ 0 < r.unitIndex ∧
        s.bus.prevUnit = some (r.opIndex, r.unitIndex - 1)
      let a : Access := {
        window := w, kind := kind, addr := addr, elided := decide elided, start := s.now
        value := if p.width = .w8 then value &&& 0x00FF#16 else value }
      s.beginAccess w r = if p.target = .scratch then { s with bus.access := some a } else { s with
        bus.access := some a
        bus.aHeld := if p.addressMode = .direct then addr &&& BitVec.ofNat 16 (2 ^ p.addressBits - 1) else s.bus.aHeld
        bus.strobePolarity := p.strobePolarity
        bus.advPolarity := p.advPolarity }

/-- A WAIT ATTENTION begun at a boundary, that of a grant or the one at which the operation before it has ended, fails LINE_OFF on a line
that is OFF; with no event it parks as the newest waiter with its deadline; with an event and no other waiter it takes one and the
settlement goes on at the same boundary (R37, R133). -/
def Obligations.WaitAttentionBegins : Prop :=
  ∀ (s : State) (starts : Bool) (w : Fin 6) (b : Boundary) (r : Record) (l : Fin 8) (timeout : Nat), b = .unit ∨ b = .ended →
    s.head w = some r → r.state = .running → r.abort = none → r.op? = some (.waitAttention l timeout) → s.tagsDistinct = true →
    ((s.line l).mode = .off → s.settle starts w b = s.settle starts w (.failed .lineOff l.val)) ∧
    ((s.line l).mode ≠ .off → (s.line l).count = 0 →
      s.settle starts w b = (((s.setLine l { s.line l with waiters := (s.line l).waiters ++ [r.tag] }).setHead w { r with
        state := .parked
        wake := some (.attention l (if timeout = 0 then none else some (s.now + 40000 * timeout))) }).dropGrant w).releaseAt w) ∧
    ((s.line l).mode ≠ .off → 1 ≤ (s.line l).count → (s.line l).waiters = [] →
      let t := s.lowerCount l ((s.line l).count - 1)
      ((2 ≤ (s.line l).count → t = s.setLine l { s.line l with count := (s.line l).count - 1 }) ∧
        ((s.line l).count = 1 → s.lineCleared t l (s.line l))) ∧
      s.settle starts w b =
        (t.setHead w { r with opIndex := r.opIndex + 1, unitIndex := 0, attempts := 0 }).settle starts w .ended)

/-- The park timers: one that expires in a POLL makes the head READY for its next attempt (R76); in a DELAY it ends the operation, and the
transaction if it was the last (R77), and its end is kept for the spacing of R40, while no recovery timer starts (R92); in a WAIT
ATTENTION it fails WAIT_TIMEOUT and takes the tag off the line (R39). With no such timer nothing happens (R6). Model choices: log entries
3, 19, 34. -/
def Obligations.ParkTimers : Prop :=
  ∀ (s : State) (w : Fin 6),
    (s.quiet = true → s.parkTimer w = none → exec (.pollTimerExpiry w) s = .next s ∧ exec (.delayExpiry w) s = .next s ∧
      exec (.waitTimeout w) s = .next s) ∧
    ∀ (r : Record) (d : Nat), s.quietTo (max s.now d) = true → s.head w = some r → r.state = .parked →
      let u : State := { s with now := max s.now d }
      let n := { r with opIndex := r.opIndex + 1, unitIndex := 0, attempts := 0 }
      (∀ a m v i k, r.op? = some (.poll a m v i k) → r.wake = some (.timer d) →
        exec (.pollTimerExpiry w) s = .next (u.setHead w { r with state := .ready, wake := none })) ∧
      let v : State := { u with sch.delayEnds := s.sch.delayEnds.set w.val (some d) w.isLt }
      (∀ i, r.op? = some (.delay i) → r.wake = some (.timer d) →
        (r.opIndex + 1 < r.ops.length →
          exec (.delayExpiry w) s = .next (v.setHead w { n with state := .ready, wake := none })) ∧
        (r.ops.length ≤ r.opIndex + 1 →
          exec (.delayExpiry w) s = .next (v.retireHead w (n.ended .done r.ops.length none 0)))) ∧
      ∀ l timeout, r.op? = some (.waitAttention l timeout) → r.wake = some (.attention l (some d)) →
        let t := (u.setLine l { s.line l with waiters := (s.line l).waiters.filter fun x => decide (x ≠ r.tag) }).retireHead w
          (r.ended (.failed .waitTimeout) r.opIndex (some r.opIndex) timeout)
        exec (.waitTimeout w) s = .next (if (s.window w).profile.softStop then t.setWindow w { t.window w with state := .faulted }
          else t)

/-- What a completed access does to its operation: progress, data and what it brings to the boundary, for each kind (R24, R28 to R36). -/
def Obligations.OperationTakesUnit : Prop :=
  ∀ (r : Record) (width : Width) (v : Word),
    let next := fun q : Record => { q with opIndex := q.opIndex + 1, unitIndex := 0, attempts := 0 }
    let more := { r with unitIndex := r.unitIndex + 1 }
    let mask := fun x : Word => if width = .w8 then x &&& 0x00FF#16 else x
    let bytes := if width = .w8 then [v.setWidth 8] else [v.setWidth 8, (v >>> 8).setWidth 8]
    (∀ a x, r.accessed (.write a x) width v = (next r, .ended)) ∧
    (∀ a k o ret, r.accessed (.modify a k o ret) width v = (next r, .ended)) ∧
    (∀ a inc vs, r.accessed (.writeBlock a inc vs) width v =
      if r.unitIndex + 1 < vs.length then (more, .unit) else (next r, .ended)) ∧
    (∀ a n inc, r.accessed (.read a n inc) width v =
      if r.unitIndex + 1 < n then ({ more with data := r.data ++ bytes }, .unit)
      else (next { r with data := r.data ++ bytes }, .ended)) ∧
    (∀ a m x i n, r.accessed (.poll a m x i n) width v =
      if v &&& mask m = mask x then (next r, .ended)
      else ({ r with attempts := r.attempts + 1 },
        if r.attempts + 1 < n then .missed else .failed .pollExhausted (r.attempts + 1))) ∧
    ∀ a n inc key m c req, r.accessed (.scan a n inc key m c req) width v =
      let x := v &&& mask m
      let hit := match c with
        | .eq => decide (x = mask key) | .ne => decide (x ≠ mask key)
        | .le => decide (x.toNat ≤ (mask key).toNat) | .ge => decide ((mask key).toNat ≤ x.toNat)
      if hit then (next { r with data := r.data ++ natBytes r.unitIndex }, .ended)
      else if r.unitIndex + 1 < n then (more, .unit)
      else if req then ({ more with data := r.data ++ [0xFF#8, 0xFF#8] }, .failed .notFound n)
      else (next { r with data := r.data ++ [0xFF#8, 0xFF#8] }, .ended)

/-- A strobe in ready mode NONE lasts the strobe width; in mode WAIT it ends with the first tick, from the last of the strobe width to
L ticks after it, in which RDY is sampled asserted (R94, R95); an access without one fails READY_TIMEOUT, having taken strobe width
plus L, with the detail of Table 2–2, after which a waiting HOLD is answered (R96, R32, R34). The lines of D that the width uses keep the
unit of a write (R90), and a free value after a read. Model choices: log entries 3, 17, 18. -/
def Obligations.ReadyAndTimeout : Prop :=
  (∀ (p : Profile) (rdy : List Bool) (n : Nat), 1 ≤ p.strobe →
    let asserted := fun k level => rdy[p.strobe - 1 + k]? = some (if p.readyPolarity = .highActive then level else !level)
    (p.readyMode = .noWait → strobeTicks p rdy = some p.strobe) ∧
    (p.readyMode = .wait → (strobeTicks p rdy = some n ↔ ∃ k, n = p.strobe + k ∧ k ≤ p.readyLimit ∧ asserted k true ∧
      ∀ j < k, asserted j false))) ∧
  ∀ (s : State) (a : Access) (r : Record) (op : Op), s.bus.access = some a →
    s.head a.window = some r → r.op? = some op →
    let p := (s.window a.window).profile
    p.target = .pins → p.readyMode = .wait →
    let now := max s.now (a.start + (addressTicks p a.elided + p.setup + (p.strobe + p.readyLimit) + p.hold))
    s.quietTo now = true →
    let detail := match op with
      | .write _ _ | .waitAttention _ _ | .delay _ => 0
      | .writeBlock _ _ _ | .read _ _ _ | .scan _ _ _ _ _ _ _ => r.unitIndex
      | .modify _ _ _ _ => if a.kind = .read then 0 else 1
      | .poll _ _ _ _ _ => r.attempts + 1
    let on := fun v : Word => if p.width = .w8 then (s.bus.dHeld &&& 0xFF00#16) ||| (v &&& 0x00FF#16) else v
    exec .readyTimeout s = .next (State.answerHold (State.settle { s with
      now := now
      freed := if a.kind = .read then s.freed + 1 else s.freed
      bus.access := none
      bus.prevUnit := some (r.opIndex, r.unitIndex)
      bus.recovery := s.bus.recovery.set a.window.val (some now) a.window.isLt
      bus.dHeld := on (if a.kind = .read then Config.heldData s.freed else a.value)
      sch.slice := s.sch.slice + 1 } true a.window (.failed .readyTimeout detail)))

/-- A pin access that completes takes the ticks of Table 5–2 with its strobe, starts its window's recovery, counts toward the slice,
and hands its unit to its operation at the boundary, after which a waiting HOLD is answered (R87, R72, R81). The read of a MODIFY is
followed by its write, after the recovery time, with no boundary between them (R31). Model choices: log entries 3, 17, 18. -/
def Obligations.AccessCompletion : Prop :=
  ∀ (s : State) (data : Word) (rdy : List Bool) (a : Access) (r : Record) (op : Op) (n : Nat),
    s.bus.access = some a → s.head a.window = some r → r.op? = some op →
    let p := (s.window a.window).profile
    p.target = .pins → strobeTicks p rdy = some n →
    let phase := if a.elided = true ∨ p.addressMode = .direct then 0
      else if p.addressMode = .single then p.addressPhase else 2 * p.addressPhase
    let now := max s.now (a.start + (phase + p.setup + n + p.hold))
    s.quietTo now = true →
    let unit := if a.kind = .write then a.value else if p.width = .w8 then data &&& 0x00FF#16 else data
    let held := if p.width = .w8 then (s.bus.dHeld &&& 0xFF00#16) ||| (unit &&& 0x00FF#16) else unit
    let recovery := s.bus.recovery.set a.window.val (some now) a.window.isLt
    ((∀ addr k o ret, op = .modify addr k o ret → a.kind = .write) →
      exec (.accessCompletion data rdy) s = .next (State.answerHold (State.settle (State.setHead { s with
        now := now
        bus.access := none
        bus.prevUnit := some (r.opIndex, r.unitIndex)
        bus.recovery := recovery
        bus.dHeld := held
        sch.slice := s.sch.slice + 1 } a.window (r.accessed op p.width unit).1) true a.window (r.accessed op p.width unit).2))) ∧
    ∀ addr k o ret, op = .modify addr k o ret → a.kind = .read →
      exec (.accessCompletion data rdy) s = .next (State.setHead { s with
        now := now
        bus.access := some { a with
          kind := .write, elided := false, start := now + p.recovery
          value := (unit &&& maskUnit p.width k) ||| maskUnit p.width o }
        bus.prevUnit := none
        bus.recovery := recovery
        bus.dHeld := held
        bus.aHeld := if p.addressMode = .direct then a.addr &&& BitVec.ofNat 16 (2 ^ p.addressBits - 1) else s.bus.aHeld
        bus.strobePolarity := p.strobePolarity
        bus.advPolarity := p.advPolarity
        sch.slice := s.sch.slice + 1 } a.window { r with data := if ret then r.data ++ unitBytes p.width unit else r.data })

/-- A scratch access completes 2 ticks after it begins: a write replaces its unit and no other byte, a read hands its operation the unit
as it stands; it counts toward the slice and ends at a boundary, moves no pin and no recovery timer (R26, R62, R63). An access outside
the 512 bytes, which R59 excludes, is a fault (log entry 25); the 2 ticks are a lower bound of the
clock (log entry 3). -/
def Obligations.ScratchAccess : Prop :=
  ∀ (s : State) (a : Access) (r : Record) (op : Op), s.bus.access = some a → s.head a.window = some r →
    r.op? = some op → s.quietTo (max s.now (a.start + 2)) = true →
    let p := (s.window a.window).profile
    p.target = .scratch →
    let first := if p.width = .w8 then a.addr.toNat else 2 * a.addr.toNat
    let unit := if a.kind = .write then a.value else scratchReadUnit s.bus.scratch p.width a.addr
    (512 < first + (if p.width = .w8 then 1 else 2) → exec .scratchAccessCompletion s = .fault .scratchOutside) ∧
    (first + (if p.width = .w8 then 1 else 2) ≤ 512 →
      (∀ addr k o ret, op = .modify addr k o ret → a.kind = .write) →
      exec .scratchAccessCompletion s = .next (State.answerHold (State.settle (State.setHead { s with
        now := max s.now (a.start + 2)
        bus.scratch := if a.kind = .write then scratchWriteUnit s.bus.scratch p.width a.addr a.value else s.bus.scratch
        bus.access := none
        bus.prevUnit := some (r.opIndex, r.unitIndex)
        sch.slice := s.sch.slice + 1 } a.window (r.accessed op p.width unit).1) true a.window (r.accessed op p.width unit).2))) ∧
    ∀ addr k o ret, first + (if p.width = .w8 then 1 else 2) ≤ 512 → op = .modify addr k o ret → a.kind = .read →
      exec .scratchAccessCompletion s = .next (State.setHead { s with
        now := max s.now (a.start + 2)
        bus.access := some { a with
          kind := .write, elided := false, start := max s.now (a.start + 2)
          value := (unit &&& maskUnit p.width k) ||| maskUnit p.width o }
        bus.prevUnit := none
        sch.slice := s.sch.slice + 1 } a.window { r with data := if ret then r.data ++ unitBytes p.width unit else r.data })

/-- The end of a recovery time places no constraint any more, and the access of its window that waited for it begins, where the hold
flag is clear and the engine owns the bus; no other window's does (R69, R92). The timer keeps its start, from which a longer value that a
CONFIGURE WINDOW gives counts (R60). A clear timer, or a SCRATCH target, at which recovery places no constraint (R55), lets a granted
access that has not begun begin at once. Model choices: log entries 3, 9, 33. -/
def Obligations.RecoveryEnd : Prop :=
  ∀ (s : State) (w : Fin 6),
    let p := (s.window w).profile
    let u : State := { s with now := match p.target, s.bus.recovery[w] with
      | .pins, some t => max s.now (t + p.recovery)
      | .pins, none | .scratch, _ => s.now }
    s.quietTo u.now = true →
    ((∀ r, s.running ≠ some (w, r)) ∨ s.bus.access ≠ none ∨ s.sch.hold = true ∨ s.bus.ownership = .released →
      exec (.recoveryEnd w) s = .next u) ∧
    ∀ r, s.running = some (w, r) → s.bus.access = none → s.sch.hold = false → s.bus.ownership = .owned →
      exec (.recoveryEnd w) s = .next (u.beginAccess w r)

/-- Bus sharing: BREQ asserted with sharing enabled releases an idle bus at once, displaces a transaction that waits at a boundary,
and waits for an access in progress; BGNT asserts two ticks after the release event; BREQ deasserted from then on ends the release,
with every recovery timer started (R101, R102). A release longer than the limit raises one overrun (R103, R162). BREQ deasserted before
is no end: BGNT asserts, and the release ends in that tick, as the step due next. Model choices: log entries 1, 3, 18, 19, 32. -/
def Obligations.BusSharing : Prop :=
  ∀ s : State,
    let t : State := { s with breq := true }
    let away := fun (u : State) (displaced : Option (Fin 6)) => { u with
      bus.ownership := .released
      bus.release := some { at_ := s.now, start := none, displaced := displaced, overrun := false } }
    let back := fun (u : State) (now : Nat) => { u with
      now := now + 1
      freed := s.freed + 1
      bus.ownership := .owned
      bus.release := none
      bus.recovery := Vector.replicate 6 (some (now + 1))
      bus.dHeld := Config.heldData s.freed }
    (∀ x t0, s.bus.release = some x → x.start = some t0 → s.breq = false → s.due = some .release →
      s.takeDue .release = back s s.now) ∧
    (s.quiet = true →
    (s.bus.shareEnable = false ∨ s.bus.access ≠ none ∨ (s.bus.ownership = .released ∧ s.running = none) →
      exec .breqAsserted s = .next t) ∧
    (s.bus.shareEnable = true → s.bus.access = none → s.bus.ownership = .owned →
      (s.running = none → exec .breqAsserted s = .next (away t none)) ∧
      ∀ w r op, s.running = some (w, r) → r.abort = none → r.op? = some op → (op.access? r.unitIndex).isSome = true →
        exec .breqAsserted s = .next (away { (t.setHead w { r with state := .ready }) with sch.grant := none } (some w))) ∧
    (s.bus.release = none → exec .breqDeasserted s = .next { s with breq := false } ∧ exec .bgntAssertion s = .next s) ∧
    ∀ x, s.bus.release = some x →
      (x.start = none → exec .breqDeasserted s = .next { s with breq := false } ∧
        let now := max s.now (x.at_ + 2)
        s.quietTo now = true → exec .bgntAssertion s = .next { s with
          now := now
          bus.release := some { x with start := some now } }) ∧
      ∀ t0, x.start = some t0 →
        (s.quietTo (s.now + 1) = true → exec .breqDeasserted s = .next (back { s with breq := false } s.now)) ∧
        (s.bus.shareLimit = 0 ∨ x.overrun = true → exec .shareOverrunRaise s = .next s) ∧
        (s.bus.shareLimit ≠ 0 → x.overrun = false → s.quietTo (max s.now (t0 + 40 * s.bus.shareLimit)) = true →
          exec .shareOverrunRaise s = .next { s with
          now := max s.now (t0 + 40 * s.bus.shareLimit)
          bus.release := some { x with overrun := true }
          rpt.overrun := some (match s.rpt.overrun with
            | none => { limit := s.bus.shareLimit, window := x.displaced, count := 1 }
            | some o => { o with count := min 255 (o.count + 1) }) }))

/-- The levels of the pins: in an access of a pin target its chip select, address phase, strobe, hold and data as Table 5–2 and R87 to R91
say, for whatever RDY shows in the strobe, with the weak hold on the lines of D that no one drives; between accesses, and in the tick of a
release event, every pin at rest; from the tick after a release event every output floating (R101); in the tick of a reset those that
ResetsFromOutside and ResetDevice give (R120). Model choices: log entries 18, 29. -/
def Obligations.PinLevels : Prop :=
  ∀ (s : State) (data : Word) (rdy : List Bool),
    let q := s.pins data rdy
    let level := fun (p : Polarity) (on : Bool) => if decide (p = .highActive) = on then Level.high else .low
    (∀ x, s.bus.resetPins = some x → s.now ≤ x.1 → q = x.2) ∧
    ((∀ x ∈ s.bus.resetPins, x.1 < s.now) →
    ((∀ x ∈ s.bus.release, s.now ≤ x.at_) → q.bgnt = false ∧ q.a = some s.bus.aHeld) ∧
    ((∀ x ∈ s.bus.release, s.now ≤ x.at_) → (∀ a, s.bus.access = some a → (s.window a.window).profile.target = .scratch ∨ s.now < a.start) →
      (∀ w : Fin 6, q.cs[w] = level (s.window w).profile.csPolarity false) ∧
      q.rds = level s.bus.strobePolarity false ∧ q.wrs = level s.bus.strobePolarity false ∧
      q.adv0 = level s.bus.advPolarity false ∧ q.adv1 = level s.bus.advPolarity false ∧
      q.dLow = none ∧ q.dHigh = none ∧ q.weakHold = some s.bus.dHeld) ∧
    (∀ a e, s.bus.release = none → s.bus.access = some a → (s.window a.window).profile.target = .pins → s.now = a.start + e →
      let p := (s.window a.window).profile
      let phases := if a.elided = true ∨ p.addressMode = .direct then 0 else if p.addressMode = .single then 1 else 2
      let before := phases * p.addressPhase + p.setup
      let ticks := match strobeTicks p rdy with | some n => n | none => p.strobe + p.readyLimit
      let strobe := before ≤ e ∧ e < before + ticks
      let adv0 := 1 ≤ phases ∧ e < p.addressPhase
      let adv1 := phases = 2 ∧ p.addressPhase ≤ e ∧ e < 2 * p.addressPhase
      let addr := a.addr &&& BitVec.ofNat 16 (2 ^ p.addressBits - 1)
      let on := fun (d v : Word) => if p.width = .w8 then (d &&& 0xFF00#16) ||| (v &&& 0x00FF#16) else v
      let left := if phases = 0 then s.bus.dHeld else if phases = 1 then on s.bus.dHeld addr
        else (s.bus.dHeld &&& 0xFF00#16) ||| (addr >>> 8)
      (∀ w : Fin 6, q.cs[w] = level (s.window w).profile.csPolarity (decide (w = a.window))) ∧
      q.rds = level s.bus.strobePolarity (decide (strobe ∧ a.kind = .read)) ∧
      q.wrs = level s.bus.strobePolarity (decide (strobe ∧ a.kind = .write)) ∧
      q.adv0 = level s.bus.advPolarity (decide adv0) ∧ q.adv1 = level s.bus.advPolarity (decide adv1) ∧
      q.dLow = (if adv0 then some (addr.setWidth 8) else if adv1 then some ((addr >>> 8).setWidth 8)
        else if a.kind = .write then some (a.value.setWidth 8) else none) ∧
      q.dHigh = (if adv0 then (if p.addressMode = .single ∧ p.width = .w16 then some ((addr >>> 8).setWidth 8) else none)
        else if adv1 then none
        else if a.kind = .write ∧ p.width = .w16 then some ((a.value >>> 8).setWidth 8) else none) ∧
      (a.kind = .write ∨ e < before + ticks → q.weakHold = some left) ∧
      (a.kind = .read → before + ticks ≤ e → (strobeTicks p rdy).isSome = true → q.weakHold = some (on left data))) ∧
    ∀ x, s.bus.release = some x → x.at_ < s.now → q = {
      cs := Vector.replicate 6 .floating, rds := .floating, wrs := .floating, adv0 := .floating, adv1 := .floating
      a := none, dLow := none, dHigh := none, weakHold := none, bgnt := x.start.isSome })

/-! ## Attention lines -/

/-- A sample at another level than the filtered one begins a pending change, or leaves the one under way; a sample at the filtered
level ends it (R128). A change that has held the filter time, or with filter 0 is due at once, takes the level; outside OFF the last edge
takes its direction; an edge mode that counts it records one event, and a level mode made active and at count 0 does; and the events are
routed to the waiters (R129, R130, R131, R127, R134). With filter 0 the recognition, which R128 puts in the tick of the sample, is left
due after it. Model choices: log entries 1, 3, 20. -/
def Obligations.AttentionEvents : Prop :=
  ∀ (s : State) (l : Fin 8),
    let x := s.line l
    (s.quiet = true → ∀ level : Bool,
      (level = x.level → exec (.attentionInputChange l level) s = .next (s.setLine l { x with pendingChange := none })) ∧
      (level ≠ x.level → x.pendingChange = none →
        exec (.attentionInputChange l level) s = .next (s.setLine l { x with pendingChange := some (level, s.now) }) ∧
        (x.filter = 0 → (s.setLine l { x with pendingChange := some (level, s.now) }).due = some (.change l))) ∧
      (level ≠ x.level → x.pendingChange ≠ none → exec (.attentionInputChange l level) s = .next s)) ∧
    (s.quiet = true → x.pendingChange = none → exec (.changeRecognised l) s = .next s) ∧
    ∀ level since, x.pendingChange = some (level, since) →
      let u : State := { s with now := max s.now (since + 40 * x.filter) }
      s.quietTo u.now = true ∨ (s.holding = false ∧ s.due = some (.change l)) →
      let y := { x with
        level := level, pendingChange := none
        lastEdge := if x.mode = .off then x.lastEdge else if level then .rise else .fall }
      let counts := (x.mode = .rise ∧ level = true) ∨ (x.mode = .fall ∧ level = false) ∨ x.mode = .both ∨
        (((x.mode = .levelHigh ∧ level = true) ∨ (x.mode = .levelLow ∧ level = false)) ∧ x.count = 0)
      exec (.changeRecognised l) s = .next (State.route (u.setLine l (
        if counts then
          if x.count = 0 then { y with count := 1, stamp := some (s.stamps + 1) }
          else if x.count < 255 then { y with count := x.count + 1 } else { y with lost := true }
        else y)) l)

/-- Routing gives events to the waiters of a line, oldest first, until no event or no waiter is left; each delivery takes one event and
the oldest tag, and the PARKED head with that tag becomes READY behind its ended operation, or ends DONE; the last event takes the stamp
with it, or an active level line records a new one (R134, R38, R127, R131). It never touches the lost or the outstanding flag. A
recognised change of a line with waiters in an edge mode that counts it wakes the oldest of them, and leaves no event (R130). It carries
the clock to the end of the filter time, a lower bound, and is due before any later event once the time for it is over. Model choices:
log entries 1, 3. -/
def Obligations.Routing : Prop :=
  let next := fun r : Record => { r with opIndex := r.opIndex + 1, unitIndex := 0, attempts := 0 }
  let woken := fun (t : State) (w : Fin 6) (r : Record) =>
    if r.ops.length ≤ r.opIndex + 1 then t.retireHead w ((next r).ended .done r.ops.length none 0)
    else t.setHead w { next r with state := .ready, wake := none }
  (∀ (s : State) (l : Fin 8), ((s.route l).line l).waiters = [] ∨ ((s.route l).line l).count = 0) ∧
  (∀ (s : State) (l : Fin 8), ((s.route l).line l).lost = (s.line l).lost ∧
    ((s.route l).line l).outstanding = (s.line l).outstanding ∧ ∃ gone, (s.line l).waiters = gone ++ ((s.route l).line l).waiters) ∧
  (∀ (s : State) (l : Fin 8), (s.line l).waiters = [] ∨ (s.line l).count = 0 → s.route l = s) ∧
  (∀ (s : State) (l : Fin 8) (w : Fin 6) (r : Record) (more : List Word) (d : Option Nat), s.tagsDistinct = true →
    (s.line l).waiters = r.tag :: more → 1 ≤ (s.line l).count → s.head w = some r → r.state = .parked →
    r.wake = some (.attention l d) →
    let x := { s.line l with waiters := more }
    (2 ≤ (s.line l).count → s.route l = State.route (woken (s.setLine l { x with count := (s.line l).count - 1 }) w r) l) ∧
    ((s.line l).count = 1 → ∃ t, s.lineCleared t l x ∧ s.route l = State.route (woken t w r) l)) ∧
  ∀ (s : State) (l : Fin 8) (w : Fin 6) (r : Record) (more : List Word) (d : Option Nat) (level : Bool) (since : Nat),
    let u : State := { s with now := max s.now (since + 40 * (s.line l).filter) }
    s.tagsDistinct = true → s.quietTo u.now = true ∨ (s.holding = false ∧ s.due = some (.change l)) →
    (s.line l).pendingChange = some (level, since) → (s.line l).count = 0 → (s.line l).stamp = none →
    ((s.line l).mode = .rise ∧ level = true) ∨ ((s.line l).mode = .fall ∧ level = false) ∨ (s.line l).mode = .both →
    (s.line l).waiters = r.tag :: more → s.head w = some r → r.state = .parked → r.wake = some (.attention l d) →
    (∀ k n, k ≠ l → (s.line k).stamp = some n → n ≤ s.stamps) →
    exec (.changeRecognised l) s = .next (woken (u.setLine l { s.line l with
      level := level, pendingChange := none, lastEdge := if level then .rise else .fall, waiters := more }) w r)
end

