-- ==== Sys2Proof/Laws/State.lean ====
section
/-! SUPPORT. The small lemmas of the state's updates: what each leaves, and what it gives where it writes. A frame lemma is one
conjunction, which simp reads part by part. -/

namespace Sys2Proof.Machine

/-! ## Windows -/

@[simp] theorem setWindow_frame (s : State) (w : Fin 6) (x : Window) :
    (s.setWindow w x).epoch = s.epoch ∧ (s.setWindow w x).sch = s.sch ∧ (s.setWindow w x).bus = s.bus ∧
    (s.setWindow w x).atn = s.atn ∧ (s.setWindow w x).dsp = s.dsp ∧ (s.setWindow w x).rpt = s.rpt ∧
    (s.setWindow w x).lnk = s.lnk ∧ (s.setWindow w x).breq = s.breq ∧ (s.setWindow w x).holding = s.holding ∧
    (s.setWindow w x).now = s.now ∧ (s.setWindow w x).freed = s.freed ∧ (s.setWindow w x).pending = s.pending :=
  ⟨rfl, rfl, rfl, rfl, rfl, rfl, rfl, rfl, rfl, rfl, rfl, rfl⟩

@[simp] theorem window_setWindow_self (s : State) (w : Fin 6) (x : Window) : (s.setWindow w x).window w = x := by
  simp [State.setWindow, State.window]

theorem window_setWindow_ne (s : State) {v w : Fin 6} (x : Window) (h : v ≠ w) :
    (s.setWindow w x).window v = s.window v := by
  have : w.val ≠ v.val := fun e => h (Fin.ext e.symm)
  simp [State.setWindow, State.window, this]

theorem window_setWindow (s : State) (v w : Fin 6) (x : Window) :
    (s.setWindow w x).window v = if v = w then x else s.window v := by
  by_cases h : v = w
  · subst h; simp
  · simp [h, window_setWindow_ne s x h]

@[simp] theorem setQueue_frame (s : State) (w : Fin 6) (q : List Record) :
    (s.setQueue w q).epoch = s.epoch ∧ (s.setQueue w q).sch = s.sch ∧ (s.setQueue w q).bus = s.bus ∧
    (s.setQueue w q).atn = s.atn ∧ (s.setQueue w q).dsp = s.dsp ∧ (s.setQueue w q).rpt = s.rpt ∧
    (s.setQueue w q).lnk = s.lnk ∧ (s.setQueue w q).breq = s.breq ∧ (s.setQueue w q).holding = s.holding ∧
    (s.setQueue w q).now = s.now ∧ (s.setQueue w q).freed = s.freed ∧ (s.setQueue w q).pending = s.pending :=
  ⟨rfl, rfl, rfl, rfl, rfl, rfl, rfl, rfl, rfl, rfl, rfl, rfl⟩

@[simp] theorem queue_setQueue_self (s : State) (w : Fin 6) (q : List Record) : (s.setQueue w q).queue w = q := by
  simp [State.setQueue, State.queue]

theorem queue_setQueue_ne (s : State) {v w : Fin 6} (q : List Record) (h : v ≠ w) :
    (s.setQueue w q).queue v = s.queue v := by
  simp [State.setQueue, State.queue, window_setWindow_ne s _ h]

theorem window_setQueue (s : State) (v w : Fin 6) (q : List Record) :
    (s.setQueue w q).window v = if v = w then { s.window w with queue := q } else s.window v := by
  simp [State.setQueue, window_setWindow]

@[simp] theorem profile_setQueue (s : State) (v w : Fin 6) (q : List Record) :
    ((s.setQueue w q).window v).profile = (s.window v).profile ∧ ((s.setQueue w q).window v).state = (s.window v).state := by
  by_cases h : v = w
  · subst h; simp [State.setQueue]
  · simp [State.setQueue, window_setWindow_ne s _ h]

@[simp] theorem setHead_frame (s : State) (w : Fin 6) (r : Record) :
    (s.setHead w r).epoch = s.epoch ∧ (s.setHead w r).sch = s.sch ∧ (s.setHead w r).bus = s.bus ∧
    (s.setHead w r).atn = s.atn ∧ (s.setHead w r).dsp = s.dsp ∧ (s.setHead w r).rpt = s.rpt ∧
    (s.setHead w r).lnk = s.lnk ∧ (s.setHead w r).breq = s.breq ∧ (s.setHead w r).holding = s.holding ∧
    (s.setHead w r).now = s.now ∧ (s.setHead w r).freed = s.freed ∧ (s.setHead w r).pending = s.pending := by
  unfold State.setHead; split <;> simp

theorem queue_setHead (s : State) (w : Fin 6) (r q : Record) (rest : List Record) (h : s.queue w = q :: rest) :
    (s.setHead w r).queue w = r :: rest := by
  simp [State.setHead, h]

theorem queue_setHead_ne (s : State) {v w : Fin 6} (r : Record) (h : v ≠ w) : (s.setHead w r).queue v = s.queue v := by
  unfold State.setHead; split
  · rfl
  · simp [queue_setQueue_ne s _ h]

@[simp] theorem profile_setHead (s : State) (v w : Fin 6) (r : Record) :
    ((s.setHead w r).window v).profile = (s.window v).profile ∧ ((s.setHead w r).window v).state = (s.window v).state := by
  unfold State.setHead; split <;> simp

/-! ## Lines -/

@[simp] theorem setLine_frame (s : State) (l : Fin 8) (x : Line) :
    (s.setLine l x).win = s.win ∧ (s.setLine l x).epoch = s.epoch ∧ (s.setLine l x).sch = s.sch ∧
    (s.setLine l x).bus = s.bus ∧ (s.setLine l x).dsp = s.dsp ∧ (s.setLine l x).rpt = s.rpt ∧
    (s.setLine l x).lnk = s.lnk ∧ (s.setLine l x).breq = s.breq ∧ (s.setLine l x).holding = s.holding ∧
    (s.setLine l x).now = s.now ∧ (s.setLine l x).freed = s.freed ∧ (s.setLine l x).pending = s.pending :=
  ⟨rfl, rfl, rfl, rfl, rfl, rfl, rfl, rfl, rfl, rfl, rfl, rfl⟩

@[simp] theorem line_setLine_self (s : State) (l : Fin 8) (x : Line) : (s.setLine l x).line l = x := by
  simp [State.setLine, State.line]

theorem line_setLine_ne (s : State) {k l : Fin 8} (x : Line) (h : k ≠ l) : (s.setLine l x).line k = s.line k := by
  have : l.val ≠ k.val := fun e => h (Fin.ext e.symm)
  simp [State.setLine, State.line, this]

theorem line_setLine (s : State) (k l : Fin 8) (x : Line) :
    (s.setLine l x).line k = if k = l then x else s.line k := by
  by_cases h : k = l
  · subst h; simp
  · simp [h, line_setLine_ne s x h]

/-! ## The clock, the backlog, the grant, the reply -/

@[simp] theorem reach_frame (s : State) (t : Nat) :
    (s.reach t).win = s.win ∧ (s.reach t).epoch = s.epoch ∧ (s.reach t).sch = s.sch ∧ (s.reach t).bus = s.bus ∧
    (s.reach t).atn = s.atn ∧ (s.reach t).dsp = s.dsp ∧ (s.reach t).rpt = s.rpt ∧ (s.reach t).lnk = s.lnk ∧
    (s.reach t).breq = s.breq ∧ (s.reach t).holding = s.holding ∧ (s.reach t).freed = s.freed ∧
    (s.reach t).pending = s.pending :=
  ⟨rfl, rfl, rfl, rfl, rfl, rfl, rfl, rfl, rfl, rfl, rfl, rfl⟩

theorem reach_now (s : State) (t : Nat) : (s.reach t).now = max s.now t := rfl

@[simp] theorem joinBacklog_frame (s : State) (rs : List Record) :
    (s.joinBacklog rs).win = s.win ∧ (s.joinBacklog rs).epoch = s.epoch ∧ (s.joinBacklog rs).sch = s.sch ∧
    (s.joinBacklog rs).bus = s.bus ∧ (s.joinBacklog rs).atn = s.atn ∧ (s.joinBacklog rs).dsp = s.dsp ∧
    (s.joinBacklog rs).lnk = s.lnk ∧ (s.joinBacklog rs).breq = s.breq ∧ (s.joinBacklog rs).holding = s.holding ∧
    (s.joinBacklog rs).now = s.now ∧ (s.joinBacklog rs).freed = s.freed ∧ (s.joinBacklog rs).pending = s.pending :=
  ⟨rfl, rfl, rfl, rfl, rfl, rfl, rfl, rfl, rfl, rfl, rfl, rfl⟩

@[simp] theorem joinBacklog_rpt (s : State) (rs : List Record) :
    (s.joinBacklog rs).rpt.backlog = s.rpt.backlog ++ rs ∧ (s.joinBacklog rs).rpt.queue = s.rpt.queue ∧
    (s.joinBacklog rs).rpt.serial = s.rpt.serial ∧ (s.joinBacklog rs).rpt.starvation = s.rpt.starvation ∧
    (s.joinBacklog rs).rpt.overrun = s.rpt.overrun :=
  ⟨rfl, rfl, rfl, rfl, rfl⟩

@[simp] theorem dropGrant_frame (s : State) (w : Fin 6) :
    (s.dropGrant w).win = s.win ∧ (s.dropGrant w).epoch = s.epoch ∧ (s.dropGrant w).bus = s.bus ∧
    (s.dropGrant w).atn = s.atn ∧ (s.dropGrant w).dsp = s.dsp ∧ (s.dropGrant w).rpt = s.rpt ∧
    (s.dropGrant w).lnk = s.lnk ∧ (s.dropGrant w).breq = s.breq ∧ (s.dropGrant w).holding = s.holding ∧
    (s.dropGrant w).now = s.now ∧ (s.dropGrant w).freed = s.freed ∧ (s.dropGrant w).pending = s.pending := by
  unfold State.dropGrant; split <;> simp

theorem dropGrant_grant (s : State) (w : Fin 6) :
    (s.dropGrant w).sch.grant = if s.sch.grant = some w then none else s.sch.grant := by
  unfold State.dropGrant; split <;> simp [*]

@[simp] theorem formReply_frame (s : State) (n : Word) (k : Byte) (c : ResultCode) (b : List Byte) :
    (s.formReply n k c b).win = s.win ∧ (s.formReply n k c b).epoch = s.epoch ∧ (s.formReply n k c b).sch = s.sch ∧
    (s.formReply n k c b).bus = s.bus ∧ (s.formReply n k c b).atn = s.atn ∧ (s.formReply n k c b).rpt = s.rpt ∧
    (s.formReply n k c b).lnk = s.lnk ∧ (s.formReply n k c b).breq = s.breq ∧ (s.formReply n k c b).holding = s.holding ∧
    (s.formReply n k c b).now = s.now ∧ (s.formReply n k c b).freed = s.freed ∧
    (s.formReply n k c b).pending = s.pending :=
  ⟨rfl, rfl, rfl, rfl, rfl, rfl, rfl, rfl, rfl, rfl, rfl, rfl⟩

@[simp] theorem formReply_dsp (s : State) (n : Word) (k : Byte) (c : ResultCode) (b : List Byte) :
    (s.formReply n k c b).dsp = { s.dsp with slot := some { kind := k, count := n, code := c, body := b } } := rfl

/-! ## The views of the queues -/

@[simp] theorem queue_joinBacklog (s : State) (rs : List Record) (w : Fin 6) : (s.joinBacklog rs).queue w = s.queue w := rfl

@[simp] theorem queue_dropGrant (s : State) (v w : Fin 6) : (s.dropGrant v).queue w = s.queue w := by
  simp [State.queue, State.window]

/-- The head leaves its queue, joins the backlog, and its grant ends; nothing else changes (R15, R70, R166). -/
theorem retireHead_spec (s : State) (w : Fin 6) (r : Record) :
    (s.retireHead w r).queue w = (s.queue w).tail ∧ (s.retireHead w r).rpt.backlog = s.rpt.backlog ++ [r] ∧
    (s.retireHead w r).sch.grant = if s.sch.grant = some w then none else s.sch.grant := by
  refine ⟨?_, ?_, ?_⟩
  · simp [State.retireHead]
  · simp [State.retireHead]
  · simp [State.retireHead, dropGrant_grant]

end Sys2Proof.Machine
end

