-- ==== Sys2Proof/Laws/Frames.lean ====
section
/-! SUPPORT. What each shared operation leaves as it was: one frame lemma for each, a conjunction that simp reads part by part. The
parts of the state that a lemma does not name are those the operation may write. -/

namespace Sys2Proof.Machine

/-! ## Ends of a transaction -/

@[simp] theorem retireHead_frame (s : State) (w : Fin 6) (r : Record) :
    (s.retireHead w r).epoch = s.epoch ∧ (s.retireHead w r).bus = s.bus ∧ (s.retireHead w r).atn = s.atn ∧
    (s.retireHead w r).dsp = s.dsp ∧ (s.retireHead w r).lnk = s.lnk ∧ (s.retireHead w r).breq = s.breq ∧
    (s.retireHead w r).holding = s.holding ∧ (s.retireHead w r).now = s.now ∧ (s.retireHead w r).freed = s.freed ∧
    (s.retireHead w r).pending = s.pending := by
  simp [State.retireHead]

@[simp] theorem failHead_frame (s : State) (w : Fin 6) (r : Record) (reason : FailReason) (detail : Nat) :
    (s.failHead w r reason detail).epoch = s.epoch ∧ (s.failHead w r reason detail).bus = s.bus ∧
    (s.failHead w r reason detail).atn = s.atn ∧ (s.failHead w r reason detail).dsp = s.dsp ∧
    (s.failHead w r reason detail).lnk = s.lnk ∧ (s.failHead w r reason detail).breq = s.breq ∧
    (s.failHead w r reason detail).holding = s.holding ∧ (s.failHead w r reason detail).now = s.now ∧
    (s.failHead w r reason detail).freed = s.freed ∧ (s.failHead w r reason detail).pending = s.pending := by
  unfold State.failHead; dsimp only; split <;> simp

@[simp] theorem removeWaiter_frame (s : State) (l : Fin 8) (tag : Word) :
    (s.removeWaiter l tag).win = s.win ∧ (s.removeWaiter l tag).epoch = s.epoch ∧ (s.removeWaiter l tag).sch = s.sch ∧
    (s.removeWaiter l tag).bus = s.bus ∧ (s.removeWaiter l tag).dsp = s.dsp ∧ (s.removeWaiter l tag).rpt = s.rpt ∧
    (s.removeWaiter l tag).lnk = s.lnk ∧ (s.removeWaiter l tag).breq = s.breq ∧
    (s.removeWaiter l tag).holding = s.holding ∧ (s.removeWaiter l tag).now = s.now ∧
    (s.removeWaiter l tag).freed = s.freed ∧ (s.removeWaiter l tag).pending = s.pending := by
  simp [State.removeWaiter]

@[simp] theorem dropWake_frame (s : State) (r : Record) :
    (s.dropWake r).win = s.win ∧ (s.dropWake r).epoch = s.epoch ∧ (s.dropWake r).sch = s.sch ∧
    (s.dropWake r).bus = s.bus ∧ (s.dropWake r).dsp = s.dsp ∧ (s.dropWake r).rpt = s.rpt ∧ (s.dropWake r).lnk = s.lnk ∧
    (s.dropWake r).breq = s.breq ∧ (s.dropWake r).holding = s.holding ∧ (s.dropWake r).now = s.now ∧
    (s.dropWake r).freed = s.freed ∧ (s.dropWake r).pending = s.pending := by
  unfold State.dropWake; repeat' split
  all_goals simp

@[simp] theorem reply_frame (s : State) (k : Byte) (c : ResultCode) (b : List Byte) :
    (s.reply k c b).win = s.win ∧ (s.reply k c b).epoch = s.epoch ∧ (s.reply k c b).sch = s.sch ∧
    (s.reply k c b).bus = s.bus ∧ (s.reply k c b).atn = s.atn ∧ (s.reply k c b).rpt = s.rpt ∧
    (s.reply k c b).lnk = s.lnk ∧ (s.reply k c b).breq = s.breq ∧ (s.reply k c b).holding = s.holding ∧
    (s.reply k c b).now = s.now ∧ (s.reply k c b).freed = s.freed ∧ (s.reply k c b).pending = s.pending := by
  simp [State.reply]

/-! ## The Attention Monitor -/

@[simp] theorem giveStamp_frame (s : State) (l : Fin 8) :
    (s.giveStamp l).win = s.win ∧ (s.giveStamp l).epoch = s.epoch ∧ (s.giveStamp l).sch = s.sch ∧
    (s.giveStamp l).bus = s.bus ∧ (s.giveStamp l).dsp = s.dsp ∧ (s.giveStamp l).rpt = s.rpt ∧
    (s.giveStamp l).lnk = s.lnk ∧ (s.giveStamp l).breq = s.breq ∧ (s.giveStamp l).holding = s.holding ∧
    (s.giveStamp l).now = s.now ∧ (s.giveStamp l).freed = s.freed ∧ (s.giveStamp l).pending = s.pending := by
  simp [State.giveStamp]

@[simp] theorem dropStamp_frame (s : State) (l : Fin 8) :
    (s.dropStamp l).win = s.win ∧ (s.dropStamp l).epoch = s.epoch ∧ (s.dropStamp l).sch = s.sch ∧
    (s.dropStamp l).bus = s.bus ∧ (s.dropStamp l).dsp = s.dsp ∧ (s.dropStamp l).rpt = s.rpt ∧
    (s.dropStamp l).lnk = s.lnk ∧ (s.dropStamp l).breq = s.breq ∧ (s.dropStamp l).holding = s.holding ∧
    (s.dropStamp l).now = s.now ∧ (s.dropStamp l).freed = s.freed ∧ (s.dropStamp l).pending = s.pending := by
  unfold State.dropStamp; split <;> simp

@[simp] theorem recordEvent_frame (s : State) (l : Fin 8) :
    (s.recordEvent l).win = s.win ∧ (s.recordEvent l).epoch = s.epoch ∧ (s.recordEvent l).sch = s.sch ∧
    (s.recordEvent l).bus = s.bus ∧ (s.recordEvent l).dsp = s.dsp ∧ (s.recordEvent l).rpt = s.rpt ∧
    (s.recordEvent l).lnk = s.lnk ∧ (s.recordEvent l).breq = s.breq ∧ (s.recordEvent l).holding = s.holding ∧
    (s.recordEvent l).now = s.now ∧ (s.recordEvent l).freed = s.freed ∧ (s.recordEvent l).pending = s.pending := by
  unfold State.recordEvent; dsimp only; repeat' split
  all_goals simp

@[simp] theorem rearm_frame (s : State) (l : Fin 8) :
    (s.rearm l).win = s.win ∧ (s.rearm l).epoch = s.epoch ∧ (s.rearm l).sch = s.sch ∧ (s.rearm l).bus = s.bus ∧
    (s.rearm l).dsp = s.dsp ∧ (s.rearm l).rpt = s.rpt ∧ (s.rearm l).lnk = s.lnk ∧ (s.rearm l).breq = s.breq ∧
    (s.rearm l).holding = s.holding ∧ (s.rearm l).now = s.now ∧ (s.rearm l).freed = s.freed ∧
    (s.rearm l).pending = s.pending := by
  unfold State.rearm; repeat' split
  all_goals simp

@[simp] theorem lowerCount_frame (s : State) (l : Fin 8) (n : Nat) :
    (s.lowerCount l n).win = s.win ∧ (s.lowerCount l n).epoch = s.epoch ∧ (s.lowerCount l n).sch = s.sch ∧
    (s.lowerCount l n).bus = s.bus ∧ (s.lowerCount l n).dsp = s.dsp ∧ (s.lowerCount l n).rpt = s.rpt ∧
    (s.lowerCount l n).lnk = s.lnk ∧ (s.lowerCount l n).breq = s.breq ∧ (s.lowerCount l n).holding = s.holding ∧
    (s.lowerCount l n).now = s.now ∧ (s.lowerCount l n).freed = s.freed ∧ (s.lowerCount l n).pending = s.pending := by
  unfold State.lowerCount; dsimp only; split <;> simp

@[simp] theorem wakeWaiter_frame (s : State) (l : Fin 8) (tag : Word) :
    (s.wakeWaiter l tag).epoch = s.epoch ∧ (s.wakeWaiter l tag).bus = s.bus ∧ (s.wakeWaiter l tag).atn = s.atn ∧
    (s.wakeWaiter l tag).dsp = s.dsp ∧ (s.wakeWaiter l tag).lnk = s.lnk ∧ (s.wakeWaiter l tag).breq = s.breq ∧
    (s.wakeWaiter l tag).holding = s.holding ∧ (s.wakeWaiter l tag).now = s.now ∧ (s.wakeWaiter l tag).freed = s.freed ∧
    (s.wakeWaiter l tag).pending = s.pending := by
  unfold State.wakeWaiter; repeat' split
  all_goals simp

@[simp] theorem deliver_frame (s : State) (l : Fin 8) (tag : Word) (rest : List Word) :
    (s.deliver l tag rest).epoch = s.epoch ∧ (s.deliver l tag rest).bus = s.bus ∧ (s.deliver l tag rest).dsp = s.dsp ∧
    (s.deliver l tag rest).lnk = s.lnk ∧ (s.deliver l tag rest).breq = s.breq ∧
    (s.deliver l tag rest).holding = s.holding ∧ (s.deliver l tag rest).now = s.now ∧
    (s.deliver l tag rest).freed = s.freed ∧ (s.deliver l tag rest).pending = s.pending := by
  simp [State.deliver]

@[simp] theorem routeUpTo_frame (l : Fin 8) (n : Nat) (s : State) :
    (State.routeUpTo l n s).epoch = s.epoch ∧ (State.routeUpTo l n s).bus = s.bus ∧ (State.routeUpTo l n s).dsp = s.dsp ∧ (State.routeUpTo l n s).lnk = s.lnk ∧
    (State.routeUpTo l n s).breq = s.breq ∧ (State.routeUpTo l n s).holding = s.holding ∧ (State.routeUpTo l n s).now = s.now ∧
    (State.routeUpTo l n s).freed = s.freed ∧ (State.routeUpTo l n s).pending = s.pending := by
  induction n generalizing s with
  | zero => simp [State.routeUpTo]
  | succ n ih =>
    unfold State.routeUpTo
    split
    · simp
    · split
      · simp [ih]
      · simp

@[simp] theorem route_frame (s : State) (l : Fin 8) :
    (s.route l).epoch = s.epoch ∧ (s.route l).bus = s.bus ∧ (s.route l).dsp = s.dsp ∧ (s.route l).lnk = s.lnk ∧
    (s.route l).breq = s.breq ∧ (s.route l).holding = s.holding ∧ (s.route l).now = s.now ∧ (s.route l).freed = s.freed ∧
    (s.route l).pending = s.pending := by
  simp [State.route]

@[simp] theorem register_frame (s : State) (l : Fin 8) (tag : Word) :
    (s.register l tag).epoch = s.epoch ∧ (s.register l tag).bus = s.bus ∧ (s.register l tag).dsp = s.dsp ∧
    (s.register l tag).lnk = s.lnk ∧ (s.register l tag).breq = s.breq ∧ (s.register l tag).holding = s.holding ∧
    (s.register l tag).now = s.now ∧ (s.register l tag).freed = s.freed ∧ (s.register l tag).pending = s.pending := by
  simp [State.register]

@[simp] theorem sampleInput_frame (s : State) (l : Fin 8) (level : Bool) :
    (s.sampleInput l level).win = s.win ∧ (s.sampleInput l level).epoch = s.epoch ∧ (s.sampleInput l level).sch = s.sch ∧
    (s.sampleInput l level).bus = s.bus ∧ (s.sampleInput l level).dsp = s.dsp ∧ (s.sampleInput l level).rpt = s.rpt ∧
    (s.sampleInput l level).lnk = s.lnk ∧ (s.sampleInput l level).breq = s.breq ∧
    (s.sampleInput l level).holding = s.holding ∧ (s.sampleInput l level).now = s.now ∧
    (s.sampleInput l level).freed = s.freed ∧ (s.sampleInput l level).pending = s.pending := by
  unfold State.sampleInput; dsimp only; repeat' split
  all_goals simp

@[simp] theorem recognise_frame (s : State) (l : Fin 8) (level : Bool) :
    (s.recognise l level).epoch = s.epoch ∧ (s.recognise l level).bus = s.bus ∧ (s.recognise l level).dsp = s.dsp ∧
    (s.recognise l level).lnk = s.lnk ∧ (s.recognise l level).breq = s.breq ∧ (s.recognise l level).holding = s.holding ∧
    (s.recognise l level).now = s.now ∧ (s.recognise l level).freed = s.freed ∧ (s.recognise l level).pending = s.pending := by
  unfold State.recognise; dsimp only; split <;> simp

@[simp] theorem takeNotice_frame (s : State) (l : Fin 8) :
    (s.takeNotice l).win = s.win ∧ (s.takeNotice l).epoch = s.epoch ∧ (s.takeNotice l).sch = s.sch ∧
    (s.takeNotice l).bus = s.bus ∧ (s.takeNotice l).dsp = s.dsp ∧ (s.takeNotice l).rpt = s.rpt ∧
    (s.takeNotice l).lnk = s.lnk ∧ (s.takeNotice l).breq = s.breq ∧ (s.takeNotice l).holding = s.holding ∧
    (s.takeNotice l).now = s.now ∧ (s.takeNotice l).freed = s.freed ∧ (s.takeNotice l).pending = s.pending := by
  simp [State.takeNotice]

@[simp] theorem setupLine_frame (s : State) (l : Fin 8) (mode : LineMode) (priority filter : Nat) (report : Bool) :
    (s.setupLine l mode priority filter report).win = s.win ∧
    (s.setupLine l mode priority filter report).epoch = s.epoch ∧
    (s.setupLine l mode priority filter report).sch = s.sch ∧ (s.setupLine l mode priority filter report).bus = s.bus ∧
    (s.setupLine l mode priority filter report).dsp = s.dsp ∧ (s.setupLine l mode priority filter report).rpt = s.rpt ∧
    (s.setupLine l mode priority filter report).lnk = s.lnk ∧ (s.setupLine l mode priority filter report).breq = s.breq ∧
    (s.setupLine l mode priority filter report).holding = s.holding ∧
    (s.setupLine l mode priority filter report).now = s.now ∧
    (s.setupLine l mode priority filter report).freed = s.freed ∧
    (s.setupLine l mode priority filter report).pending = s.pending := by
  simp [State.setupLine]

/-! ## The Bus Engine -/

@[simp] theorem beginAccess_frame (s : State) (w : Fin 6) (r : Record) :
    (s.beginAccess w r).win = s.win ∧ (s.beginAccess w r).epoch = s.epoch ∧ (s.beginAccess w r).sch = s.sch ∧
    (s.beginAccess w r).atn = s.atn ∧ (s.beginAccess w r).dsp = s.dsp ∧ (s.beginAccess w r).rpt = s.rpt ∧
    (s.beginAccess w r).lnk = s.lnk ∧ (s.beginAccess w r).breq = s.breq ∧ (s.beginAccess w r).holding = s.holding ∧
    (s.beginAccess w r).now = s.now ∧ (s.beginAccess w r).freed = s.freed ∧ (s.beginAccess w r).pending = s.pending := by
  unfold State.beginAccess; dsimp only; repeat' split
  all_goals simp

@[simp] theorem beginOrWait_frame (s : State) (w : Fin 6) (r : Record) :
    (s.beginOrWait w r).win = s.win ∧ (s.beginOrWait w r).epoch = s.epoch ∧ (s.beginOrWait w r).sch = s.sch ∧
    (s.beginOrWait w r).atn = s.atn ∧ (s.beginOrWait w r).dsp = s.dsp ∧ (s.beginOrWait w r).rpt = s.rpt ∧
    (s.beginOrWait w r).lnk = s.lnk ∧ (s.beginOrWait w r).breq = s.breq ∧ (s.beginOrWait w r).holding = s.holding ∧
    (s.beginOrWait w r).now = s.now ∧ (s.beginOrWait w r).freed = s.freed ∧ (s.beginOrWait w r).pending = s.pending := by
  unfold State.beginOrWait; repeat' split
  all_goals simp

@[simp] theorem parkHead_frame (s : State) (w : Fin 6) (r : Record) (wake : Wake) :
    (s.parkHead w r wake).epoch = s.epoch ∧ (s.parkHead w r wake).bus = s.bus ∧ (s.parkHead w r wake).atn = s.atn ∧
    (s.parkHead w r wake).dsp = s.dsp ∧ (s.parkHead w r wake).rpt = s.rpt ∧ (s.parkHead w r wake).lnk = s.lnk ∧
    (s.parkHead w r wake).breq = s.breq ∧ (s.parkHead w r wake).holding = s.holding ∧ (s.parkHead w r wake).now = s.now ∧
    (s.parkHead w r wake).freed = s.freed ∧ (s.parkHead w r wake).pending = s.pending := by
  simp [State.parkHead]

@[simp] theorem yieldHead_frame (s : State) (w : Fin 6) (r : Record) :
    (s.yieldHead w r).epoch = s.epoch ∧ (s.yieldHead w r).bus = s.bus ∧ (s.yieldHead w r).atn = s.atn ∧
    (s.yieldHead w r).dsp = s.dsp ∧ (s.yieldHead w r).rpt = s.rpt ∧ (s.yieldHead w r).lnk = s.lnk ∧
    (s.yieldHead w r).breq = s.breq ∧ (s.yieldHead w r).holding = s.holding ∧ (s.yieldHead w r).now = s.now ∧
    (s.yieldHead w r).freed = s.freed ∧ (s.yieldHead w r).pending = s.pending := by
  simp [State.yieldHead]

@[simp] theorem yieldOrGo_frame (s : State) (starts : Bool) (w : Fin 6) (r : Record) :
    (s.yieldOrGo starts w r).epoch = s.epoch ∧ (s.yieldOrGo starts w r).atn = s.atn ∧
    (s.yieldOrGo starts w r).dsp = s.dsp ∧ (s.yieldOrGo starts w r).rpt = s.rpt ∧ (s.yieldOrGo starts w r).lnk = s.lnk ∧
    (s.yieldOrGo starts w r).breq = s.breq ∧ (s.yieldOrGo starts w r).holding = s.holding ∧
    (s.yieldOrGo starts w r).now = s.now ∧ (s.yieldOrGo starts w r).freed = s.freed ∧
    (s.yieldOrGo starts w r).pending = s.pending := by
  unfold State.yieldOrGo; dsimp only; repeat' split
  all_goals simp

@[simp] theorem settleUpTo_frame (starts : Bool) (w : Fin 6) (n : Nat) (b : Boundary) (s : State) :
    (State.settleUpTo starts w n b s).epoch = s.epoch ∧ (State.settleUpTo starts w n b s).dsp = s.dsp ∧ (State.settleUpTo starts w n b s).lnk = s.lnk ∧
    (State.settleUpTo starts w n b s).breq = s.breq ∧ (State.settleUpTo starts w n b s).holding = s.holding ∧ (State.settleUpTo starts w n b s).now = s.now ∧
    (State.settleUpTo starts w n b s).freed = s.freed ∧ (State.settleUpTo starts w n b s).pending = s.pending := by
  induction n generalizing s b with
  | zero =>
    unfold State.settleUpTo; dsimp only; repeat' split
    all_goals simp
  | succ n ih =>
    unfold State.settleUpTo; dsimp only; repeat' split
    all_goals simp [ih]

@[simp] theorem releaseBus_frame (s : State) (displaced : Option (Fin 6)) :
    (s.releaseBus displaced).win = s.win ∧ (s.releaseBus displaced).epoch = s.epoch ∧
    (s.releaseBus displaced).sch = s.sch ∧ (s.releaseBus displaced).atn = s.atn ∧ (s.releaseBus displaced).dsp = s.dsp ∧
    (s.releaseBus displaced).rpt = s.rpt ∧ (s.releaseBus displaced).lnk = s.lnk ∧ (s.releaseBus displaced).breq = s.breq ∧
    (s.releaseBus displaced).holding = s.holding ∧ (s.releaseBus displaced).now = s.now ∧
    (s.releaseBus displaced).freed = s.freed ∧ (s.releaseBus displaced).pending = s.pending := by
  simp [State.releaseBus]

@[simp] theorem releaseAt_frame (s : State) (w : Fin 6) :
    (s.releaseAt w).win = s.win ∧ (s.releaseAt w).epoch = s.epoch ∧ (s.releaseAt w).sch = s.sch ∧
    (s.releaseAt w).atn = s.atn ∧ (s.releaseAt w).dsp = s.dsp ∧ (s.releaseAt w).rpt = s.rpt ∧
    (s.releaseAt w).lnk = s.lnk ∧ (s.releaseAt w).breq = s.breq ∧ (s.releaseAt w).holding = s.holding ∧
    (s.releaseAt w).now = s.now ∧ (s.releaseAt w).freed = s.freed ∧ (s.releaseAt w).pending = s.pending := by
  unfold State.releaseAt; repeat' split
  all_goals simp

@[simp] theorem settle_frame (s : State) (starts : Bool) (w : Fin 6) (b : Boundary) :
    (s.settle starts w b).epoch = s.epoch ∧ (s.settle starts w b).dsp = s.dsp ∧ (s.settle starts w b).lnk = s.lnk ∧
    (s.settle starts w b).breq = s.breq ∧ (s.settle starts w b).holding = s.holding ∧ (s.settle starts w b).now = s.now ∧
    (s.settle starts w b).freed = s.freed ∧ (s.settle starts w b).pending = s.pending := by
  simp [State.settle]

@[simp] theorem settleWaiting_frame (s : State) :
    (s.settleWaiting).epoch = s.epoch ∧ (s.settleWaiting).dsp = s.dsp ∧ (s.settleWaiting).lnk = s.lnk ∧
    (s.settleWaiting).breq = s.breq ∧ (s.settleWaiting).holding = s.holding ∧ (s.settleWaiting).now = s.now ∧
    (s.settleWaiting).freed = s.freed ∧ (s.settleWaiting).pending = s.pending := by
  unfold State.settleWaiting; repeat' split
  all_goals simp

@[simp] theorem answerRequest_frame (s : State) :
    (s.answerRequest).epoch = s.epoch ∧ (s.answerRequest).dsp = s.dsp ∧ (s.answerRequest).lnk = s.lnk ∧
    (s.answerRequest).breq = s.breq ∧ (s.answerRequest).holding = s.holding ∧ (s.answerRequest).now = s.now ∧
    (s.answerRequest).freed = s.freed ∧ (s.answerRequest).pending = s.pending := by
  unfold State.answerRequest; repeat' split
  all_goals simp

@[simp] theorem endRelease_frame (s : State) :
    (s.endRelease).win = s.win ∧ (s.endRelease).epoch = s.epoch ∧ (s.endRelease).sch = s.sch ∧
    (s.endRelease).atn = s.atn ∧ (s.endRelease).dsp = s.dsp ∧ (s.endRelease).rpt = s.rpt ∧ (s.endRelease).lnk = s.lnk ∧
    (s.endRelease).breq = s.breq ∧ (s.endRelease).holding = s.holding ∧ (s.endRelease).pending = s.pending := by
  simp [State.endRelease]

@[simp] theorem answerHold_frame (s : State) :
    (s.answerHold).win = s.win ∧ (s.answerHold).epoch = s.epoch ∧ (s.answerHold).sch = s.sch ∧
    (s.answerHold).bus = s.bus ∧ (s.answerHold).atn = s.atn ∧ (s.answerHold).rpt = s.rpt ∧ (s.answerHold).lnk = s.lnk ∧
    (s.answerHold).breq = s.breq ∧ (s.answerHold).holding = s.holding ∧ (s.answerHold).now = s.now ∧
    (s.answerHold).freed = s.freed ∧ (s.answerHold).pending = s.pending := by
  unfold State.answerHold; repeat' split
  all_goals simp

@[simp] theorem endAccess_frame (s : State) (w : Fin 6) (k i : Nat) (r : Record) (b : Boundary) :
    (s.endAccess w k i r b).epoch = s.epoch ∧ (s.endAccess w k i r b).lnk = s.lnk ∧
    (s.endAccess w k i r b).breq = s.breq ∧ (s.endAccess w k i r b).holding = s.holding ∧
    (s.endAccess w k i r b).now = s.now ∧ (s.endAccess w k i r b).freed = s.freed ∧
    (s.endAccess w k i r b).pending = s.pending := by
  simp [State.endAccess]

@[simp] theorem beginModifyWrite_frame (s : State) (a : Access) (r : Record) (value : Word) :
    (s.beginModifyWrite a r value).epoch = s.epoch ∧ (s.beginModifyWrite a r value).atn = s.atn ∧
    (s.beginModifyWrite a r value).dsp = s.dsp ∧ (s.beginModifyWrite a r value).rpt = s.rpt ∧
    (s.beginModifyWrite a r value).lnk = s.lnk ∧ (s.beginModifyWrite a r value).breq = s.breq ∧
    (s.beginModifyWrite a r value).holding = s.holding ∧ (s.beginModifyWrite a r value).now = s.now ∧
    (s.beginModifyWrite a r value).freed = s.freed ∧ (s.beginModifyWrite a r value).pending = s.pending := by
  simp [State.beginModifyWrite]

@[simp] theorem takeUnit_frame (s : State) (a : Access) (v : Word) :
    (s.takeUnit a v).epoch = s.epoch ∧ (s.takeUnit a v).lnk = s.lnk ∧ (s.takeUnit a v).breq = s.breq ∧
    (s.takeUnit a v).holding = s.holding ∧ (s.takeUnit a v).now = s.now ∧ (s.takeUnit a v).freed = s.freed ∧
    (s.takeUnit a v).pending = s.pending := by
  unfold State.takeUnit; dsimp only; repeat' split
  all_goals simp

@[simp] theorem startRecovery_frame (s : State) (w : Fin 6) :
    (s.startRecovery w).win = s.win ∧ (s.startRecovery w).epoch = s.epoch ∧ (s.startRecovery w).sch = s.sch ∧
    (s.startRecovery w).atn = s.atn ∧ (s.startRecovery w).dsp = s.dsp ∧ (s.startRecovery w).rpt = s.rpt ∧
    (s.startRecovery w).lnk = s.lnk ∧ (s.startRecovery w).breq = s.breq ∧ (s.startRecovery w).holding = s.holding ∧
    (s.startRecovery w).now = s.now ∧ (s.startRecovery w).freed = s.freed ∧ (s.startRecovery w).pending = s.pending := by
  simp [State.startRecovery]

@[simp] theorem completePin_frame (s : State) (a : Access) (strobe : Nat) (data : Word) :
    (s.completePin a strobe data).epoch = s.epoch ∧ (s.completePin a strobe data).lnk = s.lnk ∧
    (s.completePin a strobe data).breq = s.breq ∧ (s.completePin a strobe data).holding = s.holding ∧
    (s.completePin a strobe data).freed = s.freed ∧ (s.completePin a strobe data).pending = s.pending := by
  unfold State.completePin; dsimp only; simp

@[simp] theorem completeScratch_frame (s : State) (a : Access) :
    (s.completeScratch a).epoch = s.epoch ∧ (s.completeScratch a).lnk = s.lnk ∧ (s.completeScratch a).breq = s.breq ∧
    (s.completeScratch a).holding = s.holding ∧ (s.completeScratch a).freed = s.freed ∧
    (s.completeScratch a).pending = s.pending := by
  unfold State.completeScratch; dsimp only; split <;> simp

@[simp] theorem timeoutPin_frame (s : State) (a : Access) :
    (s.timeoutPin a).epoch = s.epoch ∧ (s.timeoutPin a).lnk = s.lnk ∧ (s.timeoutPin a).breq = s.breq ∧
    (s.timeoutPin a).holding = s.holding ∧ (s.timeoutPin a).pending = s.pending := by
  unfold State.timeoutPin; dsimp only; repeat' split
  all_goals simp

/-! ## The Scheduler -/

@[simp] theorem grantTo_frame (s : State) (starts : Bool) (w : Fin 6) :
    (s.grantTo starts w).epoch = s.epoch ∧ (s.grantTo starts w).dsp = s.dsp ∧ (s.grantTo starts w).lnk = s.lnk ∧
    (s.grantTo starts w).breq = s.breq ∧ (s.grantTo starts w).holding = s.holding ∧ (s.grantTo starts w).now = s.now ∧
    (s.grantTo starts w).freed = s.freed ∧ (s.grantTo starts w).pending = s.pending := by
  unfold State.grantTo; split <;> simp

@[simp] theorem makeChoice_frame (s : State) (starts : Bool) :
    (s.makeChoice starts).epoch = s.epoch ∧ (s.makeChoice starts).dsp = s.dsp ∧ (s.makeChoice starts).lnk = s.lnk ∧
    (s.makeChoice starts).breq = s.breq ∧ (s.makeChoice starts).holding = s.holding ∧
    (s.makeChoice starts).freed = s.freed ∧ (s.makeChoice starts).pending = s.pending := by
  unfold State.makeChoice; repeat' split
  all_goals simp

@[simp] theorem beginWaiting_frame (s : State) (w : Fin 6) :
    (s.beginWaiting w).win = s.win ∧ (s.beginWaiting w).epoch = s.epoch ∧ (s.beginWaiting w).sch = s.sch ∧
    (s.beginWaiting w).atn = s.atn ∧ (s.beginWaiting w).dsp = s.dsp ∧ (s.beginWaiting w).rpt = s.rpt ∧
    (s.beginWaiting w).lnk = s.lnk ∧ (s.beginWaiting w).breq = s.breq ∧ (s.beginWaiting w).holding = s.holding ∧
    (s.beginWaiting w).now = s.now ∧ (s.beginWaiting w).freed = s.freed ∧ (s.beginWaiting w).pending = s.pending := by
  unfold State.beginWaiting; repeat' split
  all_goals simp

@[simp] theorem endRecovery_frame (s : State) (w : Fin 6) :
    (s.endRecovery w).win = s.win ∧ (s.endRecovery w).epoch = s.epoch ∧ (s.endRecovery w).sch = s.sch ∧
    (s.endRecovery w).atn = s.atn ∧ (s.endRecovery w).dsp = s.dsp ∧ (s.endRecovery w).rpt = s.rpt ∧
    (s.endRecovery w).lnk = s.lnk ∧ (s.endRecovery w).breq = s.breq ∧ (s.endRecovery w).holding = s.holding ∧
    (s.endRecovery w).freed = s.freed ∧ (s.endRecovery w).pending = s.pending := by
  unfold State.endRecovery; split <;> simp

@[simp] theorem expirePoll_frame (s : State) (w : Fin 6) :
    (s.expirePoll w).epoch = s.epoch ∧ (s.expirePoll w).sch = s.sch ∧ (s.expirePoll w).bus = s.bus ∧
    (s.expirePoll w).atn = s.atn ∧ (s.expirePoll w).dsp = s.dsp ∧ (s.expirePoll w).rpt = s.rpt ∧
    (s.expirePoll w).lnk = s.lnk ∧ (s.expirePoll w).breq = s.breq ∧ (s.expirePoll w).holding = s.holding ∧
    (s.expirePoll w).freed = s.freed ∧ (s.expirePoll w).pending = s.pending := by
  unfold State.expirePoll; repeat' split
  all_goals simp

@[simp] theorem endDelay_frame (s : State) (w : Fin 6) (deadline : Nat) :
    (s.endDelay w deadline).win = s.win ∧ (s.endDelay w deadline).epoch = s.epoch ∧ (s.endDelay w deadline).bus = s.bus ∧
    (s.endDelay w deadline).atn = s.atn ∧ (s.endDelay w deadline).dsp = s.dsp ∧ (s.endDelay w deadline).rpt = s.rpt ∧
    (s.endDelay w deadline).lnk = s.lnk ∧ (s.endDelay w deadline).breq = s.breq ∧ (s.endDelay w deadline).holding = s.holding ∧
    (s.endDelay w deadline).now = s.now ∧ (s.endDelay w deadline).freed = s.freed ∧
    (s.endDelay w deadline).pending = s.pending ∧ (s.endDelay w deadline).sch.grant = s.sch.grant ∧
    (s.endDelay w deadline).sch.pointer = s.sch.pointer ∧ (s.endDelay w deadline).sch.slice = s.sch.slice ∧
    (s.endDelay w deadline).sch.hold = s.sch.hold ∧ (s.endDelay w deadline).sch.delayEnds[w] = some deadline := by
  simp [State.endDelay]

@[simp] theorem expireDelay_frame (s : State) (w : Fin 6) :
    (s.expireDelay w).epoch = s.epoch ∧ (s.expireDelay w).atn = s.atn ∧
    (s.expireDelay w).dsp = s.dsp ∧ (s.expireDelay w).lnk = s.lnk ∧ (s.expireDelay w).breq = s.breq ∧
    (s.expireDelay w).holding = s.holding ∧ (s.expireDelay w).freed = s.freed ∧ (s.expireDelay w).pending = s.pending := by
  unfold State.expireDelay; repeat' split
  all_goals simp

@[simp] theorem expireWait_frame (s : State) (w : Fin 6) :
    (s.expireWait w).epoch = s.epoch ∧ (s.expireWait w).bus = s.bus ∧ (s.expireWait w).dsp = s.dsp ∧
    (s.expireWait w).lnk = s.lnk ∧ (s.expireWait w).breq = s.breq ∧ (s.expireWait w).holding = s.holding ∧
    (s.expireWait w).freed = s.freed ∧ (s.expireWait w).pending = s.pending := by
  unfold State.expireWait; repeat' split
  all_goals simp

/-! ## The Reporter -/

@[simp] theorem pushReport_frame (s : State) (c : ReportContent) :
    (s.pushReport c).win = s.win ∧ (s.pushReport c).epoch = s.epoch ∧ (s.pushReport c).sch = s.sch ∧
    (s.pushReport c).bus = s.bus ∧ (s.pushReport c).atn = s.atn ∧ (s.pushReport c).dsp = s.dsp ∧
    (s.pushReport c).lnk = s.lnk ∧ (s.pushReport c).breq = s.breq ∧ (s.pushReport c).holding = s.holding ∧
    (s.pushReport c).now = s.now ∧ (s.pushReport c).freed = s.freed ∧ (s.pushReport c).pending = s.pending := by
  simp [State.pushReport]

@[simp] theorem countStarvation_frame (s : State) :
    (s.countStarvation).win = s.win ∧ (s.countStarvation).epoch = s.epoch ∧ (s.countStarvation).sch = s.sch ∧
    (s.countStarvation).bus = s.bus ∧ (s.countStarvation).atn = s.atn ∧ (s.countStarvation).dsp = s.dsp ∧
    (s.countStarvation).lnk = s.lnk ∧ (s.countStarvation).breq = s.breq ∧ (s.countStarvation).holding = s.holding ∧
    (s.countStarvation).now = s.now ∧ (s.countStarvation).freed = s.freed ∧ (s.countStarvation).pending = s.pending := by
  simp [State.countStarvation]

@[simp] theorem admitReply_frame (s : State) :
    (s.admitReply).win = s.win ∧ (s.admitReply).epoch = s.epoch ∧ (s.admitReply).sch = s.sch ∧
    (s.admitReply).bus = s.bus ∧ (s.admitReply).atn = s.atn ∧ (s.admitReply).lnk = s.lnk ∧ (s.admitReply).breq = s.breq ∧
    (s.admitReply).holding = s.holding ∧ (s.admitReply).now = s.now ∧ (s.admitReply).freed = s.freed ∧
    (s.admitReply).pending = s.pending := by
  unfold State.admitReply; repeat' split
  all_goals simp

@[simp] theorem admitCompletion_frame (s : State) :
    (s.admitCompletion).win = s.win ∧ (s.admitCompletion).epoch = s.epoch ∧ (s.admitCompletion).sch = s.sch ∧
    (s.admitCompletion).bus = s.bus ∧ (s.admitCompletion).atn = s.atn ∧ (s.admitCompletion).dsp = s.dsp ∧
    (s.admitCompletion).lnk = s.lnk ∧ (s.admitCompletion).breq = s.breq ∧ (s.admitCompletion).holding = s.holding ∧
    (s.admitCompletion).now = s.now ∧ (s.admitCompletion).freed = s.freed ∧ (s.admitCompletion).pending = s.pending := by
  unfold State.admitCompletion; repeat' split
  all_goals simp

@[simp] theorem admitOverrun_frame (s : State) :
    (s.admitOverrun).win = s.win ∧ (s.admitOverrun).epoch = s.epoch ∧ (s.admitOverrun).sch = s.sch ∧
    (s.admitOverrun).bus = s.bus ∧ (s.admitOverrun).atn = s.atn ∧ (s.admitOverrun).dsp = s.dsp ∧
    (s.admitOverrun).lnk = s.lnk ∧ (s.admitOverrun).breq = s.breq ∧ (s.admitOverrun).holding = s.holding ∧
    (s.admitOverrun).now = s.now ∧ (s.admitOverrun).freed = s.freed ∧ (s.admitOverrun).pending = s.pending := by
  unfold State.admitOverrun; repeat' split
  all_goals simp

@[simp] theorem admitAttention_frame (s : State) :
    (s.admitAttention).win = s.win ∧ (s.admitAttention).epoch = s.epoch ∧ (s.admitAttention).sch = s.sch ∧
    (s.admitAttention).bus = s.bus ∧ (s.admitAttention).dsp = s.dsp ∧ (s.admitAttention).lnk = s.lnk ∧
    (s.admitAttention).breq = s.breq ∧ (s.admitAttention).holding = s.holding ∧ (s.admitAttention).now = s.now ∧
    (s.admitAttention).freed = s.freed ∧ (s.admitAttention).pending = s.pending := by
  unfold State.admitAttention; repeat' split
  all_goals simp

@[simp] theorem admit_frame (s : State) :
    (s.admitOne).win = s.win ∧ (s.admitOne).epoch = s.epoch ∧ (s.admitOne).sch = s.sch ∧ (s.admitOne).bus = s.bus ∧
    (s.admitOne).lnk = s.lnk ∧ (s.admitOne).breq = s.breq ∧ (s.admitOne).holding = s.holding ∧ (s.admitOne).now = s.now ∧
    (s.admitOne).freed = s.freed ∧ (s.admitOne).pending = s.pending := by
  unfold State.admitOne; repeat' split
  all_goals simp

@[simp] theorem raiseOverrun_frame (s : State) (limit : Nat) (window : Option (Fin 6)) :
    (s.raiseOverrun limit window).win = s.win ∧ (s.raiseOverrun limit window).epoch = s.epoch ∧
    (s.raiseOverrun limit window).sch = s.sch ∧ (s.raiseOverrun limit window).bus = s.bus ∧
    (s.raiseOverrun limit window).atn = s.atn ∧ (s.raiseOverrun limit window).dsp = s.dsp ∧
    (s.raiseOverrun limit window).lnk = s.lnk ∧ (s.raiseOverrun limit window).breq = s.breq ∧
    (s.raiseOverrun limit window).holding = s.holding ∧ (s.raiseOverrun limit window).now = s.now ∧
    (s.raiseOverrun limit window).freed = s.freed ∧ (s.raiseOverrun limit window).pending = s.pending := by
  unfold State.raiseOverrun; repeat' split
  all_goals simp

@[simp] theorem overrunRelease_frame (s : State) :
    (s.overrunRelease).win = s.win ∧ (s.overrunRelease).epoch = s.epoch ∧ (s.overrunRelease).sch = s.sch ∧
    (s.overrunRelease).atn = s.atn ∧ (s.overrunRelease).dsp = s.dsp ∧ (s.overrunRelease).lnk = s.lnk ∧
    (s.overrunRelease).breq = s.breq ∧ (s.overrunRelease).holding = s.holding ∧ (s.overrunRelease).freed = s.freed ∧
    (s.overrunRelease).pending = s.pending := by
  unfold State.overrunRelease; dsimp only; repeat' split
  all_goals simp

/-! ## The Link Controller -/

@[simp] theorem sendFrame_frame (s : State) (kind : TxKind) (bytes : List Byte) :
    (s.sendFrame kind bytes).win = s.win ∧ (s.sendFrame kind bytes).epoch = s.epoch ∧
    (s.sendFrame kind bytes).sch = s.sch ∧ (s.sendFrame kind bytes).bus = s.bus ∧ (s.sendFrame kind bytes).atn = s.atn ∧
    (s.sendFrame kind bytes).dsp = s.dsp ∧ (s.sendFrame kind bytes).rpt = s.rpt ∧ (s.sendFrame kind bytes).breq = s.breq ∧
    (s.sendFrame kind bytes).holding = s.holding ∧ (s.sendFrame kind bytes).now = s.now ∧
    (s.sendFrame kind bytes).freed = s.freed ∧ (s.sendFrame kind bytes).pending = s.pending := by
  simp [State.sendFrame]

@[simp] theorem sendAcking_frame (s : State) (kind : TxKind) (control : Byte) (seq : SeqNum) (msg : Message) :
    (s.sendAcking kind control seq msg).win = s.win ∧ (s.sendAcking kind control seq msg).epoch = s.epoch ∧
    (s.sendAcking kind control seq msg).sch = s.sch ∧ (s.sendAcking kind control seq msg).bus = s.bus ∧
    (s.sendAcking kind control seq msg).atn = s.atn ∧ (s.sendAcking kind control seq msg).dsp = s.dsp ∧
    (s.sendAcking kind control seq msg).rpt = s.rpt ∧ (s.sendAcking kind control seq msg).breq = s.breq ∧
    (s.sendAcking kind control seq msg).holding = s.holding ∧ (s.sendAcking kind control seq msg).now = s.now ∧
    (s.sendAcking kind control seq msg).freed = s.freed ∧ (s.sendAcking kind control seq msg).pending = s.pending := by
  simp [State.sendAcking]

@[simp] theorem sendData_frame (s : State) (x : ReplayFrame) :
    (s.sendData x).win = s.win ∧ (s.sendData x).epoch = s.epoch ∧ (s.sendData x).sch = s.sch ∧
    (s.sendData x).bus = s.bus ∧ (s.sendData x).atn = s.atn ∧ (s.sendData x).dsp = s.dsp ∧ (s.sendData x).rpt = s.rpt ∧
    (s.sendData x).breq = s.breq ∧ (s.sendData x).holding = s.holding ∧ (s.sendData x).now = s.now ∧
    (s.sendData x).freed = s.freed ∧ (s.sendData x).pending = s.pending := by
  unfold State.sendData; dsimp only; split <;> simp

@[simp] theorem transmitUp_frame (s : State) :
    (s.transmitUp).win = s.win ∧ (s.transmitUp).epoch = s.epoch ∧ (s.transmitUp).sch = s.sch ∧
    (s.transmitUp).bus = s.bus ∧ (s.transmitUp).atn = s.atn ∧ (s.transmitUp).dsp = s.dsp ∧ (s.transmitUp).rpt = s.rpt ∧
    (s.transmitUp).breq = s.breq ∧ (s.transmitUp).holding = s.holding ∧ (s.transmitUp).now = s.now ∧
    (s.transmitUp).freed = s.freed ∧ (s.transmitUp).pending = s.pending := by
  unfold State.transmitUp; repeat' split
  all_goals simp

@[simp] theorem transmit_frame (s : State) :
    (s.transmit).win = s.win ∧ (s.transmit).epoch = s.epoch ∧ (s.transmit).sch = s.sch ∧ (s.transmit).bus = s.bus ∧
    (s.transmit).atn = s.atn ∧ (s.transmit).dsp = s.dsp ∧ (s.transmit).rpt = s.rpt ∧ (s.transmit).breq = s.breq ∧
    (s.transmit).holding = s.holding ∧ (s.transmit).now = s.now ∧ (s.transmit).freed = s.freed ∧
    (s.transmit).pending = s.pending := by
  unfold State.transmit; repeat' split
  all_goals simp

@[simp] theorem startTimer_frame (s : State) :
    (s.startTimer).win = s.win ∧ (s.startTimer).epoch = s.epoch ∧ (s.startTimer).sch = s.sch ∧
    (s.startTimer).bus = s.bus ∧ (s.startTimer).atn = s.atn ∧ (s.startTimer).dsp = s.dsp ∧ (s.startTimer).rpt = s.rpt ∧
    (s.startTimer).breq = s.breq ∧ (s.startTimer).holding = s.holding ∧ (s.startTimer).now = s.now ∧
    (s.startTimer).freed = s.freed ∧ (s.startTimer).pending = s.pending := by
  simp [State.startTimer]

@[simp] theorem restartTimer_frame (s : State) :
    (s.restartTimer).win = s.win ∧ (s.restartTimer).epoch = s.epoch ∧ (s.restartTimer).sch = s.sch ∧
    (s.restartTimer).bus = s.bus ∧ (s.restartTimer).atn = s.atn ∧ (s.restartTimer).dsp = s.dsp ∧
    (s.restartTimer).rpt = s.rpt ∧ (s.restartTimer).breq = s.breq ∧ (s.restartTimer).holding = s.holding ∧
    (s.restartTimer).now = s.now ∧ (s.restartTimer).freed = s.freed ∧ (s.restartTimer).pending = s.pending := by
  unfold State.restartTimer; repeat' split
  all_goals simp

@[simp] theorem goBack_frame (s : State) (n : SeqNum) :
    (s.goBack n).win = s.win ∧ (s.goBack n).epoch = s.epoch ∧ (s.goBack n).sch = s.sch ∧ (s.goBack n).bus = s.bus ∧
    (s.goBack n).atn = s.atn ∧ (s.goBack n).dsp = s.dsp ∧ (s.goBack n).rpt = s.rpt ∧ (s.goBack n).breq = s.breq ∧
    (s.goBack n).holding = s.holding ∧ (s.goBack n).now = s.now ∧ (s.goBack n).freed = s.freed ∧
    (s.goBack n).pending = s.pending := by
  simp [State.goBack]

@[simp] theorem acknowledge_frame (s : State) (a : SeqNum) :
    (s.acknowledge a).win = s.win ∧ (s.acknowledge a).epoch = s.epoch ∧ (s.acknowledge a).sch = s.sch ∧
    (s.acknowledge a).bus = s.bus ∧ (s.acknowledge a).atn = s.atn ∧ (s.acknowledge a).dsp = s.dsp ∧
    (s.acknowledge a).rpt = s.rpt ∧ (s.acknowledge a).breq = s.breq ∧ (s.acknowledge a).holding = s.holding ∧
    (s.acknowledge a).now = s.now ∧ (s.acknowledge a).freed = s.freed ∧ (s.acknowledge a).pending = s.pending := by
  unfold State.acknowledge; dsimp only; split <;> simp

@[simp] theorem sortData_frame (s : State) (seq : SeqNum) (msg : Message) :
    (s.sortData seq msg).win = s.win ∧ (s.sortData seq msg).epoch = s.epoch ∧ (s.sortData seq msg).sch = s.sch ∧
    (s.sortData seq msg).bus = s.bus ∧ (s.sortData seq msg).atn = s.atn ∧ (s.sortData seq msg).dsp = s.dsp ∧
    (s.sortData seq msg).rpt = s.rpt ∧ (s.sortData seq msg).breq = s.breq ∧ (s.sortData seq msg).holding = s.holding ∧
    (s.sortData seq msg).now = s.now ∧ (s.sortData seq msg).freed = s.freed ∧ (s.sortData seq msg).pending = s.pending := by
  unfold State.sortData; dsimp only; repeat' split
  all_goals simp

@[simp] theorem transmitAfterTakes_frame (s : State) :
    (s.transmitAfterTakes).win = s.win ∧ (s.transmitAfterTakes).epoch = s.epoch ∧ (s.transmitAfterTakes).sch = s.sch ∧
    (s.transmitAfterTakes).bus = s.bus ∧ (s.transmitAfterTakes).atn = s.atn ∧ (s.transmitAfterTakes).dsp = s.dsp ∧
    (s.transmitAfterTakes).rpt = s.rpt ∧ (s.transmitAfterTakes).breq = s.breq ∧
    (s.transmitAfterTakes).holding = s.holding ∧ (s.transmitAfterTakes).now = s.now ∧
    (s.transmitAfterTakes).freed = s.freed ∧ (s.transmitAfterTakes).pending = s.pending := by
  unfold State.transmitAfterTakes; split <;> simp

@[simp] theorem takeData_frame (s : State) (g : List Byte) :
    (s.takeData g).win = s.win ∧ (s.takeData g).epoch = s.epoch ∧ (s.takeData g).sch = s.sch ∧
    (s.takeData g).bus = s.bus ∧ (s.takeData g).atn = s.atn ∧ (s.takeData g).dsp = s.dsp ∧ (s.takeData g).rpt = s.rpt ∧
    (s.takeData g).breq = s.breq ∧ (s.takeData g).holding = s.holding ∧ (s.takeData g).now = s.now ∧
    (s.takeData g).freed = s.freed ∧ (s.takeData g).pending = s.pending := by
  unfold State.takeData; repeat' split
  all_goals simp

@[simp] theorem takeAck_frame (s : State) (g : List Byte) :
    (s.takeAck g).win = s.win ∧ (s.takeAck g).epoch = s.epoch ∧ (s.takeAck g).sch = s.sch ∧ (s.takeAck g).bus = s.bus ∧
    (s.takeAck g).atn = s.atn ∧ (s.takeAck g).dsp = s.dsp ∧ (s.takeAck g).rpt = s.rpt ∧ (s.takeAck g).breq = s.breq ∧
    (s.takeAck g).holding = s.holding ∧ (s.takeAck g).now = s.now ∧ (s.takeAck g).freed = s.freed ∧
    (s.takeAck g).pending = s.pending := by
  unfold State.takeAck; repeat' split
  all_goals simp

@[simp] theorem negative_frame (s : State) (n : SeqNum) :
    (s.negative n).win = s.win ∧ (s.negative n).epoch = s.epoch ∧ (s.negative n).sch = s.sch ∧
    (s.negative n).bus = s.bus ∧ (s.negative n).atn = s.atn ∧ (s.negative n).dsp = s.dsp ∧ (s.negative n).rpt = s.rpt ∧
    (s.negative n).breq = s.breq ∧ (s.negative n).holding = s.holding ∧ (s.negative n).now = s.now ∧
    (s.negative n).freed = s.freed ∧ (s.negative n).pending = s.pending := by
  unfold State.negative; dsimp only; repeat' split
  all_goals simp

@[simp] theorem takeNak_frame (s : State) (g : List Byte) :
    (s.takeNak g).win = s.win ∧ (s.takeNak g).epoch = s.epoch ∧ (s.takeNak g).sch = s.sch ∧ (s.takeNak g).bus = s.bus ∧
    (s.takeNak g).atn = s.atn ∧ (s.takeNak g).dsp = s.dsp ∧ (s.takeNak g).rpt = s.rpt ∧ (s.takeNak g).breq = s.breq ∧
    (s.takeNak g).holding = s.holding ∧ (s.takeNak g).now = s.now ∧ (s.takeNak g).freed = s.freed ∧
    (s.takeNak g).pending = s.pending := by
  unfold State.takeNak; repeat' split
  all_goals simp

@[simp] theorem takeResync_frame (s : State) :
    (s.takeResync).win = s.win ∧ (s.takeResync).epoch = s.epoch ∧ (s.takeResync).sch = s.sch ∧
    (s.takeResync).bus = s.bus ∧ (s.takeResync).atn = s.atn ∧ (s.takeResync).dsp = s.dsp ∧ (s.takeResync).rpt = s.rpt ∧
    (s.takeResync).breq = s.breq ∧ (s.takeResync).holding = s.holding ∧ (s.takeResync).now = s.now ∧
    (s.takeResync).freed = s.freed ∧ (s.takeResync).pending = s.pending := by
  simp [State.takeResync]

@[simp] theorem takeDamaged_frame (s : State) :
    (s.takeDamaged).win = s.win ∧ (s.takeDamaged).epoch = s.epoch ∧ (s.takeDamaged).sch = s.sch ∧
    (s.takeDamaged).bus = s.bus ∧ (s.takeDamaged).atn = s.atn ∧ (s.takeDamaged).dsp = s.dsp ∧
    (s.takeDamaged).rpt = s.rpt ∧ (s.takeDamaged).breq = s.breq ∧ (s.takeDamaged).holding = s.holding ∧
    (s.takeDamaged).now = s.now ∧ (s.takeDamaged).freed = s.freed ∧ (s.takeDamaged).pending = s.pending := by
  unfold State.takeDamaged; dsimp only; simp

@[simp] theorem takeGap_frame (s : State) :
    (s.takeGap).win = s.win ∧ (s.takeGap).epoch = s.epoch ∧ (s.takeGap).sch = s.sch ∧ (s.takeGap).bus = s.bus ∧
    (s.takeGap).atn = s.atn ∧ (s.takeGap).dsp = s.dsp ∧ (s.takeGap).rpt = s.rpt ∧ (s.takeGap).breq = s.breq ∧
    (s.takeGap).holding = s.holding ∧ (s.takeGap).freed = s.freed ∧ (s.takeGap).pending = s.pending := by
  unfold State.takeGap; dsimp only; split <;> simp

@[simp] theorem takeReport_frame (s : State) :
    (s.takeReport).win = s.win ∧ (s.takeReport).epoch = s.epoch ∧ (s.takeReport).sch = s.sch ∧
    (s.takeReport).bus = s.bus ∧ (s.takeReport).atn = s.atn ∧ (s.takeReport).dsp = s.dsp ∧ (s.takeReport).breq = s.breq ∧
    (s.takeReport).holding = s.holding ∧ (s.takeReport).now = s.now ∧ (s.takeReport).freed = s.freed ∧
    (s.takeReport).pending = s.pending := by
  unfold State.takeReport; repeat' split
  all_goals simp

@[simp] theorem requestAck_frame (s : State) :
    (s.requestAck).win = s.win ∧ (s.requestAck).epoch = s.epoch ∧ (s.requestAck).sch = s.sch ∧
    (s.requestAck).bus = s.bus ∧ (s.requestAck).atn = s.atn ∧ (s.requestAck).dsp = s.dsp ∧ (s.requestAck).rpt = s.rpt ∧
    (s.requestAck).breq = s.breq ∧ (s.requestAck).holding = s.holding ∧ (s.requestAck).freed = s.freed ∧
    (s.requestAck).pending = s.pending := by
  unfold State.requestAck; repeat' split
  all_goals simp

@[simp] theorem frameSent_frame (s : State) (kind : TxKind) :
    (s.frameSent kind).win = s.win ∧ (s.frameSent kind).epoch = s.epoch ∧ (s.frameSent kind).sch = s.sch ∧
    (s.frameSent kind).bus = s.bus ∧ (s.frameSent kind).atn = s.atn ∧ (s.frameSent kind).dsp = s.dsp ∧
    (s.frameSent kind).rpt = s.rpt ∧ (s.frameSent kind).breq = s.breq ∧ (s.frameSent kind).holding = s.holding ∧
    (s.frameSent kind).now = s.now ∧ (s.frameSent kind).freed = s.freed ∧ (s.frameSent kind).pending = s.pending := by
  unfold State.frameSent; dsimp only; repeat' split
  all_goals simp

@[simp] theorem endFrame_frame (s : State) :
    (s.endFrame).win = s.win ∧ (s.endFrame).epoch = s.epoch ∧ (s.endFrame).sch = s.sch ∧ (s.endFrame).bus = s.bus ∧
    (s.endFrame).atn = s.atn ∧ (s.endFrame).dsp = s.dsp ∧ (s.endFrame).rpt = s.rpt ∧ (s.endFrame).breq = s.breq ∧
    (s.endFrame).holding = s.holding ∧ (s.endFrame).freed = s.freed ∧ (s.endFrame).pending = s.pending := by
  unfold State.endFrame; repeat' split
  all_goals simp

@[simp] theorem startAnnouncing_frame (s : State) :
    (s.startAnnouncing).win = s.win ∧ (s.startAnnouncing).epoch = s.epoch ∧ (s.startAnnouncing).sch = s.sch ∧
    (s.startAnnouncing).bus = s.bus ∧ (s.startAnnouncing).atn = s.atn ∧ (s.startAnnouncing).dsp = s.dsp ∧
    (s.startAnnouncing).rpt = s.rpt ∧ (s.startAnnouncing).breq = s.breq ∧ (s.startAnnouncing).holding = s.holding ∧
    (s.startAnnouncing).now = s.now ∧ (s.startAnnouncing).freed = s.freed ∧ (s.startAnnouncing).pending = s.pending := by
  simp [State.startAnnouncing]

@[simp] theorem expireRetransmission_frame (s : State) :
    (s.expireRetransmission).win = s.win ∧ (s.expireRetransmission).epoch = s.epoch ∧
    (s.expireRetransmission).sch = s.sch ∧ (s.expireRetransmission).bus = s.bus ∧ (s.expireRetransmission).atn = s.atn ∧
    (s.expireRetransmission).dsp = s.dsp ∧ (s.expireRetransmission).rpt = s.rpt ∧ (s.expireRetransmission).breq = s.breq ∧
    (s.expireRetransmission).holding = s.holding ∧ (s.expireRetransmission).freed = s.freed ∧
    (s.expireRetransmission).pending = s.pending := by
  unfold State.expireRetransmission; dsimp only; repeat' split
  all_goals simp

@[simp] theorem expireAnnounce_frame (s : State) :
    (s.expireAnnounce).win = s.win ∧ (s.expireAnnounce).epoch = s.epoch ∧ (s.expireAnnounce).sch = s.sch ∧
    (s.expireAnnounce).bus = s.bus ∧ (s.expireAnnounce).atn = s.atn ∧ (s.expireAnnounce).dsp = s.dsp ∧
    (s.expireAnnounce).rpt = s.rpt ∧ (s.expireAnnounce).breq = s.breq ∧ (s.expireAnnounce).holding = s.holding ∧
    (s.expireAnnounce).freed = s.freed ∧ (s.expireAnnounce).pending = s.pending := by
  unfold State.expireAnnounce; repeat' split
  all_goals simp

end Sys2Proof.Machine
end

