-- ==== Sys2Proof/Laws/PerInstr.lean ====
section
/-! SUPPORT. One lemma for each command: it is well formed exactly when its operands are ones that the part's pins can show. -/

namespace Sys2Proof.Laws.OperandsWithinPins

/-- A command is well formed exactly when an ACCESS_COMPLETION it is has no more RDY samples than the longest strobe has ticks
(R94, R95). -/
def Statement (i : Instr) : Prop :=
  i.wellFormed = true ↔ ∀ data rdy, i = .accessCompletion data rdy → rdy.length ≤ 63 + 1023

theorem submit : Statement (.submit) := ⟨fun _ _ _ h => (nomatch h), fun _ => rfl⟩

theorem cancel : Statement (.cancel) := ⟨fun _ _ _ h => (nomatch h), fun _ => rfl⟩

theorem flush : Statement (.flush) := ⟨fun _ _ _ h => (nomatch h), fun _ => rfl⟩

theorem configureWindow : Statement (.configureWindow) := ⟨fun _ _ _ h => (nomatch h), fun _ => rfl⟩

theorem clearFault : Statement (.clearFault) := ⟨fun _ _ _ h => (nomatch h), fun _ => rfl⟩

theorem setupAttention : Statement (.setupAttention) := ⟨fun _ _ _ h => (nomatch h), fun _ => rfl⟩

theorem acknowledgeAttention : Statement (.acknowledgeAttention) := ⟨fun _ _ _ h => (nomatch h), fun _ => rfl⟩

theorem hold : Statement (.hold) := ⟨fun _ _ _ h => (nomatch h), fun _ => rfl⟩

theorem resume : Statement (.resume) := ⟨fun _ _ _ h => (nomatch h), fun _ => rfl⟩

theorem setSharing : Statement (.setSharing) := ⟨fun _ _ _ h => (nomatch h), fun _ => rfl⟩

theorem setLink : Statement (.setLink) := ⟨fun _ _ _ h => (nomatch h), fun _ => rfl⟩

theorem resetDevice : Statement (.resetDevice) := ⟨fun _ _ _ h => (nomatch h), fun _ => rfl⟩

theorem queryDevice : Statement (.queryDevice) := ⟨fun _ _ _ h => (nomatch h), fun _ => rfl⟩

theorem queryWindow : Statement (.queryWindow) := ⟨fun _ _ _ h => (nomatch h), fun _ => rfl⟩

theorem queryTransaction : Statement (.queryTransaction) := ⟨fun _ _ _ h => (nomatch h), fun _ => rfl⟩

theorem queryAttention : Statement (.queryAttention) := ⟨fun _ _ _ h => (nomatch h), fun _ => rfl⟩

theorem queryLink : Statement (.queryLink) := ⟨fun _ _ _ h => (nomatch h), fun _ => rfl⟩

theorem unknownRequest : Statement (.unknownRequest) := ⟨fun _ _ _ h => (nomatch h), fun _ => rfl⟩

theorem dataFrame : Statement (.dataFrame) := ⟨fun _ _ _ h => (nomatch h), fun _ => rfl⟩

theorem ackFrame : Statement (.ackFrame) := ⟨fun _ _ _ h => (nomatch h), fun _ => rfl⟩

theorem nakFrame : Statement (.nakFrame) := ⟨fun _ _ _ h => (nomatch h), fun _ => rfl⟩

theorem resync : Statement (.resync) := ⟨fun _ _ _ h => (nomatch h), fun _ => rfl⟩

theorem hostResyncReply : Statement (.hostResyncReply) := ⟨fun _ _ _ h => (nomatch h), fun _ => rfl⟩

theorem unknownControlFrame : Statement (.unknownControlFrame) := ⟨fun _ _ _ h => (nomatch h), fun _ => rfl⟩

theorem crcError : Statement (.crcError) := ⟨fun _ _ _ h => (nomatch h), fun _ => rfl⟩

theorem gapError : Statement (.gapError) := ⟨fun _ _ _ h => (nomatch h), fun _ => rfl⟩

theorem ackRequested : Statement (.ackRequested) := ⟨fun _ _ _ h => (nomatch h), fun _ => rfl⟩

theorem frameTransmitEnd : Statement (.frameTransmitEnd) := ⟨fun _ _ _ h => (nomatch h), fun _ => rfl⟩

theorem retransmissionTimeout : Statement (.retransmissionTimeout) := ⟨fun _ _ _ h => (nomatch h), fun _ => rfl⟩

theorem announceTimer : Statement (.announceTimer) := ⟨fun _ _ _ h => (nomatch h), fun _ => rfl⟩

theorem reportTake : Statement (.reportTake) := ⟨fun _ _ _ h => (nomatch h), fun _ => rfl⟩

theorem reportAdmission : Statement (.reportAdmission) := ⟨fun _ _ _ h => (nomatch h), fun _ => rfl⟩

theorem shareOverrunRaise : Statement (.shareOverrunRaise) := ⟨fun _ _ _ h => (nomatch h), fun _ => rfl⟩

theorem grant (starts : Bool) : Statement (.grant starts) := ⟨fun _ _ _ h => (nomatch h), fun _ => rfl⟩

theorem recoveryEnd (w : Fin 6) : Statement (.recoveryEnd w) := ⟨fun _ _ _ h => (nomatch h), fun _ => rfl⟩

theorem accessCompletion (data : Word) (rdy : List Bool) : Statement (.accessCompletion data rdy) := by
  refine ⟨fun h d r e => ?_, fun h => decide_eq_true (h data rdy rfl)⟩
  cases e; exact of_decide_eq_true h

theorem scratchAccessCompletion : Statement (.scratchAccessCompletion) := ⟨fun _ _ _ h => (nomatch h), fun _ => rfl⟩

theorem readyTimeout : Statement (.readyTimeout) := ⟨fun _ _ _ h => (nomatch h), fun _ => rfl⟩

theorem pollTimerExpiry (w : Fin 6) : Statement (.pollTimerExpiry w) := ⟨fun _ _ _ h => (nomatch h), fun _ => rfl⟩

theorem delayExpiry (w : Fin 6) : Statement (.delayExpiry w) := ⟨fun _ _ _ h => (nomatch h), fun _ => rfl⟩

theorem waitTimeout (w : Fin 6) : Statement (.waitTimeout w) := ⟨fun _ _ _ h => (nomatch h), fun _ => rfl⟩

theorem attentionInputChange (line : Fin 8) (level : Bool) : Statement (.attentionInputChange line level) := ⟨fun _ _ _ h => (nomatch h), fun _ => rfl⟩

theorem changeRecognised (line : Fin 8) : Statement (.changeRecognised line) := ⟨fun _ _ _ h => (nomatch h), fun _ => rfl⟩

theorem breqAsserted : Statement (.breqAsserted) := ⟨fun _ _ _ h => (nomatch h), fun _ => rfl⟩

theorem breqDeasserted : Statement (.breqDeasserted) := ⟨fun _ _ _ h => (nomatch h), fun _ => rfl⟩

theorem powerOnReset : Statement (.powerOnReset) := ⟨fun _ _ _ h => (nomatch h), fun _ => rfl⟩

theorem pinReset : Statement (.pinReset) := ⟨fun _ _ _ h => (nomatch h), fun _ => rfl⟩

theorem resetRelease (baud : BitVec 2) (atn : BitVec 8) : Statement (.resetRelease baud atn) := ⟨fun _ _ _ h => (nomatch h), fun _ => rfl⟩

theorem byteReceived (b : Byte) : Statement (.byteReceived b) := ⟨fun _ _ _ h => (nomatch h), fun _ => rfl⟩

theorem bgntAssertion : Statement (.bgntAssertion) := ⟨fun _ _ _ h => (nomatch h), fun _ => rfl⟩

end Sys2Proof.Laws.OperandsWithinPins
end

