-- ==== Sys2Proof/Laws/Scratch.lean ====
section
/-! SUPPORT. The laws of scratch memory: a byte written is read back, every other byte stays, and the canonical form is kept. -/

namespace Sys2Proof.Machine

/-- Below the first listed address every byte reads 0. -/
theorem scratchRead_below {lo : Nat} {m : List Host.Cell} (h : scratchRising lo m = true) {a : Nat} (ha : a < lo) :
    scratchRead m a = 0#8 := by
  induction m generalizing lo with
  | nil => rfl
  | cons c m ih =>
    obtain ⟨k, v⟩ := c
    simp [scratchRising] at h
    have : k ≠ a := by omega
    simp only [scratchRead, this, if_false]
    exact ih h.2 (by omega)

/-- What a byte reads after a write: the byte written at its address, and the old byte elsewhere. -/
theorem scratchRead_scratchWrite {lo : Nat} {m : List Host.Cell} (h : scratchRising lo m = true) (a b : Nat) (v : Byte) :
    scratchRead (scratchWrite m a v) b = if b = a then v else scratchRead m b := by
  induction m generalizing lo with
  | nil =>
    by_cases hv : v = 0#8
    · simp [scratchWrite, hv, scratchRead]
    · by_cases hb : b = a
      · simp [scratchWrite, hv, scratchRead, hb]
      · have : a ≠ b := fun e => hb e.symm
        simp [scratchWrite, hv, scratchRead, hb, this]
  | cons c m ih =>
    obtain ⟨k, u⟩ := c
    simp [scratchRising] at h
    have hb0 : ∀ b, b ≤ k → scratchRead m b = 0#8 := fun b hb => scratchRead_below h.2 (by omega)
    by_cases h1 : a < k
    · by_cases hv : v = 0#8
      · by_cases hb : b = a
        · have hk : k ≠ a := by omega
          simp [scratchWrite, h1, hv, hb, scratchRead, hk, hb0 a (by omega)]
        · simp [scratchWrite, h1, hv, hb]
      · by_cases hb : b = a
        · simp [scratchWrite, h1, hv, hb, scratchRead]
        · have : a ≠ b := fun e => hb e.symm
          simp [scratchWrite, h1, hv, hb, this, scratchRead]
    · by_cases h2 : a = k
      · subst h2
        by_cases hv : v = 0#8
        · by_cases hb : b = a
          · subst hb; simp [scratchWrite, hv, hb0 b (by omega)]
          · have : a ≠ b := fun e => hb e.symm
            simp [scratchWrite, hv, hb, this, scratchRead]
        · by_cases hb : b = a
          · simp [scratchWrite, hv, hb, scratchRead]
          · have : a ≠ b := fun e => hb e.symm
            simp [scratchWrite, hv, hb, this, scratchRead]
      · by_cases hk : k = b
        · subst hk
          have : k ≠ a := fun e => h2 e.symm
          simp [scratchWrite, h1, h2, scratchRead, this]
        · simp [scratchWrite, h1, h2, scratchRead, hk, ih h.2]

/-- A write keeps the addresses rising. -/
theorem scratchRising_scratchWrite {lo : Nat} {m : List Host.Cell} (h : scratchRising lo m = true) {a : Nat} (ha : lo ≤ a)
    (v : Byte) : scratchRising lo (scratchWrite m a v) = true := by
  induction m generalizing lo with
  | nil => by_cases hv : v = 0#8 <;> simp [scratchWrite, hv, scratchRising, ha]
  | cons c m ih =>
    obtain ⟨k, u⟩ := c
    simp [scratchRising] at h
    have weaken : ∀ {x y : Nat}, x ≤ y → scratchRising y m = true → scratchRising x m = true := by
      intro x y hxy hy
      cases m with
      | nil => rfl
      | cons d m => simp [scratchRising] at hy ⊢; exact ⟨by omega, hy.2⟩
    by_cases h1 : a < k
    · by_cases hv : v = 0#8
      · simp [scratchWrite, h1, hv, scratchRising, h]
      · simp only [scratchWrite, h1, hv, if_true, if_false, scratchRising, Bool.and_eq_true, decide_eq_true_eq]
        exact ⟨ha, by omega, h.2⟩
    · by_cases h2 : a = k
      · subst h2
        by_cases hv : v = 0#8
        · simpa [scratchWrite, hv] using weaken (Nat.le_succ_of_le ha) h.2
        · simp [scratchWrite, hv, scratchRising, h.2, ha]
      · simp only [scratchWrite, h1, h2, if_false, scratchRising, Bool.and_eq_true, decide_eq_true_eq]
        exact ⟨h.1, ih h.2 (by omega)⟩

/-- Every cell after a write is an old one or the one written. -/
theorem mem_scratchWrite {m : List Host.Cell} {a : Nat} {v : Byte} {c : Host.Cell} (h : c ∈ scratchWrite m a v) :
    c ∈ m ∨ (c = (a, v) ∧ v ≠ 0#8) := by
  induction m with
  | nil =>
    by_cases hv : v = 0#8
    · simp [scratchWrite, hv] at h
    · simp [scratchWrite, hv] at h; exact .inr ⟨h, hv⟩
  | cons d m ih =>
    obtain ⟨k, u⟩ := d
    by_cases h1 : a < k
    · by_cases hv : v = 0#8
      · simp [scratchWrite, h1, hv] at h; simp [h]
      · simp [scratchWrite, h1, hv] at h
        rcases h with h | h | h
        · exact .inr ⟨h, hv⟩
        · simp [h]
        · simp [h]
    · by_cases h2 : a = k
      · subst h2
        by_cases hv : v = 0#8
        · simp [scratchWrite, hv] at h; simp [h]
        · simp [scratchWrite, hv] at h
          rcases h with h | h
          · exact .inr ⟨h, hv⟩
          · simp [h]
      · simp [scratchWrite, h1, h2] at h
        rcases h with h | h
        · simp [h]
        · rcases ih h with h | h
          · simp [h]
          · exact .inr h

/-- A write within the 512 bytes keeps the canonical form. -/
theorem scratchWf_scratchWrite {m : List Host.Cell} (h : scratchWf m = true) {a : Nat} (ha : a < Config.scratchBytes)
    (v : Byte) : scratchWf (scratchWrite m a v) = true := by
  simp only [scratchWf, Bool.and_eq_true] at h ⊢
  refine ⟨scratchRising_scratchWrite h.1 (Nat.zero_le _) v, ?_⟩
  rw [List.all_eq_true] at h ⊢
  intro c hc
  rcases mem_scratchWrite hc with hm | ⟨rfl, hv⟩
  · exact h.2 c hm
  · simp [ha, hv]

/-- A write of a unit that lies within the 512 bytes keeps the canonical form. -/
theorem scratchWf_scratchWriteUnit {m : List Host.Cell} (h : scratchWf m = true) {width : Width} {addr : Word}
    (hi : scratchInside width addr = true) (value : Word) : scratchWf (scratchWriteUnit m width addr value) = true := by
  cases width <;> simp [scratchInside, scratchByte, Width.bytes, Config.scratchBytes] at hi
  · exact scratchWf_scratchWrite h (by simp [Config.scratchBytes]; omega) _
  · exact scratchWf_scratchWrite (scratchWf_scratchWrite h (by simp [Config.scratchBytes]; omega) _)
      (by simp [Config.scratchBytes]; omega) _

/-- The scratch memory of State.reset has the canonical form. -/
theorem scratchWf_reset : scratchWf State.reset.bus.scratch = true := rfl

end Sys2Proof.Machine
end

