-- ==== Sys2Proof/Laws/Steps.lean ====
section
/-! SUPPORT. How a step of each shape acts: an event on a part at rest, the taking of a request, the check of a frame. -/

namespace Sys2Proof.Machine

/-- With nothing due before the moment of what comes next, nothing is taken. -/
theorem drainTo_of_dueBy_none {s : State} {moment : State → Nat} (h : s.dueBy (moment s) = none) (n : Nat) :
    State.drainTo moment n s = s := by
  cases n <;> simp [State.drainTo, h]

/-- With nothing due before an event, it finds the state as it stands. -/
theorem before_of_dueBy_none {s : State} {effect : State → State} (h : s.dueBy (effect s).now = none) : s.before effect = s := by
  unfold State.before
  exact drainTo_of_dueBy_none (moment := fun t => (effect t).now) h _

/-- With nothing due, the event under way is over. -/
theorem drain_of_due_none {s : State} (h : s.due = none) : s.drain = s := before_of_dueBy_none h

/-- With nothing due before a step, it finds the state as it stands. -/
theorem upTo_of_dueBy_none {s : State} {d : Due} (h : s.dueBy (s.takeDue d).now = none) : s.upTo d = s := by
  have : ∀ n, State.upToWithin d n s = s := by
    intro n; cases n <;> simp [State.upToWithin, h]
  exact this _

/-- The step that is due next has nothing due before it. -/
theorem upTo_of_dueBy {s : State} {d : Due} (h : s.dueBy (s.takeDue d).now = some d) : s.upTo d = s := by
  have : ∀ n, State.upToWithin d n s = s := by
    intro n; cases n <;> simp [State.upToWithin, h]
  exact this _

theorem quietTo_iff {s : State} {t : Nat} : s.quietTo t = true ↔ s.holding = false ∧ s.dueBy t = none := by
  simp [State.quietTo]

theorem quiet_iff {s : State} : s.quiet = true ↔ s.holding = false ∧ s.due = none := quietTo_iff

/-- An event of the outside acts on a part at rest up to its moment as it stands. -/
theorem event_of_quietTo {s : State} {f : State → State} (h : s.quietTo (f s).now = true) : s.event f = f s := by
  rw [quietTo_iff] at h
  simp [State.event, h.1, before_of_dueBy_none h.2]

/-- An event that leaves the clock where it is acts on a part at rest as it stands. -/
theorem event_of_quiet {s : State} {f : State → State} (h : s.quiet = true) (hf : (f s).now = s.now) : s.event f = f s :=
  event_of_quietTo (by rw [hf]; exact h)

/-- What is due at the clock as it stands comes first before any moment. -/
theorem dueBy_of_due {s : State} {d : Due} (h : s.due = some d) (t : Nat) : s.dueBy t = some d := by
  unfold State.due State.dueBy at *
  split
  · simpa [*] using h
  split
  · simpa [*] using h
  split
  · simpa [*] using h
  split
  · simpa [*] using h
  split
  · simpa [*] using h
  split
  · simpa [*] using h
  · simp [*] at h

/-- At rest up to a moment is at rest. -/
theorem quiet_of_quietTo {s : State} {t : Nat} (h : s.quietTo t = true) : s.quiet = true := by
  rw [quietTo_iff] at h
  refine quiet_iff.mpr ⟨h.1, ?_⟩
  cases hd : s.due with
  | none => rfl
  | some d => rw [dueBy_of_due hd] at h; cases h.2

/-- In the holding state an event has no effect. -/
theorem event_of_holding {s : State} (h : s.holding = true) (f : State → State) : s.event f = s := by
  simp [State.event, h]

/-- Recovery places no constraint at a SCRATCH target (R55). -/
theorem recoveryEnds_of_scratch {s : State} {w : Fin 6} (h : (s.window w).profile.target = .scratch) : s.recoveryEnds w = none := by
  simp [State.recoveryEnds, h]

/-- The end of a pin target's recovery time (R92). -/
theorem recoveryEnds_of_pins {s : State} {w : Fin 6} (h : (s.window w).profile.target = .pins) :
    s.recoveryEnds w = s.bus.recovery[w].map fun t => t + (s.window w).profile.recovery := by
  simp [State.recoveryEnds, h]

/-- A window is in recovery exactly while its end lies ahead. -/
theorem recovering_iff {s : State} {w : Fin 6} : s.recovering w = true ↔ ∃ t, s.recoveryEnds w = some t ∧ s.now < t := by
  unfold State.recovering; split <;> simp [*]

theorem dispatcherIdle_iff {s : State} : s.dispatcherIdle = true ↔ s.dsp.slot = none ∧ s.dsp.holdWait = none := by
  simp [State.dispatcherIdle]

/-- The Dispatcher takes the head of the Intake Queue when it is of the kind. -/
theorem takeKind_of {s : State} {m : Message} {rest : List Message} {k : Option RequestKind} {body : State → Message → State}
    (hm : s.lnk.intake = m :: rest) (hi : s.dispatcherIdle = true) (hk : kindNamed (kindOf m) = k) :
    s.takeKind k body = body (s.pop rest) m := by
  simp [State.takeKind, hm, hi, hk]

/-- The gathered frame that is as wanted is handed on. -/
theorem takeFrame_of {s : State} {g : List Byte} {wanted : List Byte → Bool} {effect : State → List Byte → State}
    (hg : s.lnk.gathered = some g) (hw : wanted g = true) :
    s.takeFrame wanted effect = effect { s with lnk.gathered := none } g := by
  simp [State.takeFrame, hg, hw]

@[simp] theorem pop_frame (s : State) (rest : List Message) :
    (s.pop rest).win = s.win ∧ (s.pop rest).epoch = s.epoch ∧ (s.pop rest).sch = s.sch ∧ (s.pop rest).bus = s.bus ∧
    (s.pop rest).atn = s.atn ∧ (s.pop rest).rpt = s.rpt ∧ (s.pop rest).breq = s.breq ∧ (s.pop rest).holding = s.holding ∧
    (s.pop rest).now = s.now ∧ (s.pop rest).freed = s.freed ∧ (s.pop rest).pending = s.pending :=
  ⟨rfl, rfl, rfl, rfl, rfl, rfl, rfl, rfl, rfl, rfl, rfl⟩

/-- A frame with nothing on TXD and nothing due begins no transmission. -/
theorem transmit_of_busy {s : State} (h : s.lnk.tx ≠ none) : s.transmit = s := by
  simp [State.transmit, h]

/-- What the transmitter can do: nothing, or with TXD idle begin one frame (R185). -/
theorem transmit_cases (s : State) :
    s.transmit = s ∨ s.lnk.tx = none ∧ ∃ kind bytes, s.transmit.lnk.tx = some { kind := kind, bytes := bytes, begun := s.now } := by
  by_cases h : s.lnk.tx = none
  · have hd : ∀ x : ReplayFrame, ∃ kind bytes,
        (s.sendData x).lnk.tx = some { kind := kind, bytes := bytes, begun := s.now } := by
      intro x; unfold State.sendData; dsimp only; split <;> exact ⟨_, _, rfl⟩
    unfold State.transmit State.transmitUp
    simp only [h, ne_eq, not_true_eq_false, if_false]
    split
    · exact .inr ⟨trivial, _, _, rfl⟩
    · split
      · split
        · exact .inr ⟨trivial, _, _, rfl⟩
        · split
          · exact .inr ⟨trivial, hd _⟩
          · split
            · exact .inr ⟨trivial, hd _⟩
            · split
              · exact .inr ⟨trivial, _, _, rfl⟩
              · exact .inl rfl
      all_goals
        split
        · exact .inr ⟨trivial, _, _, rfl⟩
        · exact .inl rfl
  · exact .inl (transmit_of_busy h)

/-- The Link Controller's sorting of a DATA frame writes the Intake Queue by at most one message. -/
theorem sortData_intake (s : State) (seq : SeqNum) (msg : Message) :
    (s.sortData seq msg).lnk.intake = s.lnk.intake ∨
      (s.lnk.intake.length < Config.intakeEntries ∧ (s.sortData seq msg).lnk.intake = s.lnk.intake ++ [msg]) := by
  unfold State.sortData; dsimp only
  split
  · split
    · exact .inr ⟨‹_›, rfl⟩
    · exact .inl rfl
  · split <;> exact .inl rfl

/-- An acknowledgement shortens the replay buffer from its oldest end (R181). -/
theorem acknowledge_replay (s : State) (a : SeqNum) :
    (s.acknowledge a).lnk.replay = s.lnk.replay.drop (s.lnk.released a) := by
  unfold State.acknowledge; dsimp only
  split
  · simp [*]
  · unfold State.restartTimer State.startTimer
    repeat' split
    all_goals rfl

/-- An admission adds at most one report, and only into a free entry (R164, R167). -/
theorem admit_queue (s : State) :
    s.admitOne.rpt.queue = s.rpt.queue ∨
      (s.rpt.queue.length < Config.reportEntries ∧ ∃ r, s.admitOne.rpt.queue = s.rpt.queue ++ [r]) := by
  by_cases hf : s.entryFree = true
  · have hl : s.rpt.queue.length < Config.reportEntries := by simpa [State.entryFree] using hf
    unfold State.admitOne; simp only [hf, if_true]
    unfold State.admitReply State.admitCompletion State.admitOverrun State.admitAttention
    repeat' split
    all_goals first | exact .inl rfl | exact .inr ⟨hl, _, rfl⟩ | (refine .inr ⟨hl, ?_⟩; simp [State.pushReport])
  · exact .inl (by simp [State.admitOne, hf])

end Sys2Proof.Machine
end

