-- ==== Sys2Proof/Tests/Slice0.lean ====
section
/-! SUPPORT. Tests of single commands on small states, with the results the manual gives, and for each statement a state that meets
its hypotheses. -/

namespace Sys2Proof.Tests

open Sys2Proof Sys2Proof.Machine

set_option Elab.async false

/-! ## Small states -/

/-- The part out of reset with its link UP. -/
def up : State := { State.reset with holding := false, lnk := { Link.reset .power 0#2 with state := .up } }

/-- One message waits. -/
def asks (s : State) (m : Message) : State := { s with lnk.intake := [m] }

/-- A record of window 0 with one operation list. -/
def record (tag : Word) (ops : List Op) (state : TxState) : Record where
  tag := tag
  window := 0
  cls := .normal
  barrier := false
  epoch := 0#16
  ops := ops
  state := state
  abort := none
  opIndex := 0
  unitIndex := 0
  attempts := 0
  wake := none
  data := []
  outcome := none
  opsCompleted := 0
  failIndex := none
  detail := 0
  acceptedCount := 1#16

/-- Window 0 in a state with a profile and a queue. -/
def win (state : WindowState) (p : Profile) (q : List Record) : State := up.setWindow 0 { state := state, profile := p, queue := q }

/-- Window 0 ENABLED with the default profile and a queue. -/
def queued (q : List Record) : State := win .enabled Profile.default q

/-- The head of window 0 is RUNNING. -/
def running (ops : List Op) : State := { queued [record 7#16 ops .running] with sch.grant := some 0 }

/-- A pin access of window 0. -/
def access (kind : AccessKind) : Access :=
  { window := 0, kind := kind, addr := 3#16, value := 0x55#16, elided := false, start := 0 }

/-- Its first access is in progress. -/
def busy (kind : AccessKind) (ops : List Op) : State := { running ops with bus.access := some (access kind) }

/-- The same at a scratch target. -/
def busyScratch (kind : AccessKind) (ops : List Op) : State :=
  { (win .enabled { Profile.default with target := .scratch } [record 7#16 ops .running]) with
    sch.grant := some 0, bus.access := some (access kind) }

/-- The head of window 0 is PARKED. -/
def parked (ops : List Op) (wake : Wake) : State := queued [{ record 7#16 ops .parked with wake := some wake }]

/-- A line entry. -/
def line (l : Fin 8) (f : Line → Line) (s : State) : State := s.setLine l (f (s.line l))

/-- A profile that waits for RDY. -/
def waitsReady : Profile := { Profile.default with readyMode := .wait, readyPolarity := .highActive, readyLimit := 3 }

/-- A report of the replay buffer. -/
def frame (seq : SeqNum) (sent : Sent) : ReplayFrame :=
  { seq := seq, sent := sent, report := { serial := seq.setWidth 16, content := .shareOverrun 5 none 1 } }

/-- A frame of the host awaits its check. -/
def gathers (s : State) (control sa : Byte) (msg : Message) : State :=
  { s with lnk.gathered := some (frameBody control sa msg ++ crcBytes (frameBody control sa msg)) }

/-- A frame is on TXD. -/
def sends (kind : TxKind) (s : State) : State := { s with lnk.tx := some { kind := kind, bytes := [0#8], begun := 0 } }

/-- What a command leaves, seen through `f`; nothing where it stops. -/
def after {α : Type} (c : Instr) (s : State) (f : State → α) : Option α :=
  match exec c s with
  | .next t => some (f t)
  | .fault _ | .refused _ => none

/-- The code and the body of the reply formed. -/
def replied (s : State) : Option (ResultCode × List Byte) := s.dsp.slot.map fun r => (r.code, r.body)

/-- State, operation index and outcome of the head of window 0. -/
def head (s : State) : Option (TxState × Nat) := (s.head 0).map fun r => (r.state, r.opIndex)

/-- The outcomes on the backlog. -/
def ended (s : State) : List (Option TxOutcome) := s.rpt.backlog.map Record.outcome

/-- A record that has ended. -/
def endedRecord : Record := (record 101#16 [.delay 1] .queued).ended (.cancelled .byCancel) 0 none 0

/-- A QUEUED record of window 0, and one on the backlog. -/
def twoLive : State := { (queued [record 7#16 [.delay 1] .queued]) with rpt.backlog := [endedRecord] }

/-! ## Well-formedness and table words -/

theorem test_wellFormed_refuses_long_rdy : (Instr.accessCompletion 0#16 (List.replicate 1087 false)).wellFormed = false := by
  decide +kernel

theorem test_wellFormed_longest_rdy : (Instr.accessCompletion 0#16 (List.replicate 1086 true)).wellFormed = true := by
  decide +kernel

theorem test_no_table_word : decodeTableWord 8 1 = none := rfl

/-- The check value of this CRC over the digits 1 to 9. -/
theorem test_crc : crc [0x31#8, 0x32#8, 0x33#8, 0x34#8, 0x35#8, 0x36#8, 0x37#8, 0x38#8, 0x39#8] = 0x29B1#16 := by decide +kernel

/-! ## Requests -/

/-- SUBMIT of tag 9 to window 0: one WRITE of 5 to address 4. -/
def submitBytes (cls barrier : Byte) : Message :=
  [0x01#8, 9#8, 0#8, 0#8, cls, barrier, 1#8, 0x01#8, 4#8, 0#8, 5#8, 0#8]

theorem test_submit_accepted : after .submit (asks (queued []) (submitBytes 0#8 0#8)) replied =
    some (some (.accepted, [9#8, 0#8, 0#8, 0#8, 0#8])) := by decide +kernel

/-- R17, R21: an URGENT barrier takes epoch 1, and joins behind a NORMAL record of epoch 0. -/
theorem test_submit_barrier : after .submit (asks (queued [record 7#16 [.delay 1] .queued]) (submitBytes 1#8 1#8))
    (fun t => (replied t, t.epoch)) = some (some (.accepted, [9#8, 0#8, 1#8, 0#8, 1#8]), 2#16) := by decide +kernel

theorem test_cancel_queued : after .cancel (asks (queued [record 7#16 [.delay 1] .queued]) [0x02#8, 7#8, 0#8])
    (fun t => (replied t, ended t)) = some (some (.accepted, [7#8, 0#8, 0#8]), [some (.cancelled .byCancel)]) := by decide +kernel

theorem test_cancel_running_marks : after .cancel (asks (busy .read [.read 3#16 2 true]) [0x02#8, 7#8, 0#8])
    (fun t => (replied t, head t)) = some (some (.accepted, [7#8, 0#8, 2#8]), some (.running, 0)) := by decide +kernel

theorem test_flush : after .flush (asks (queued [record 7#16 [.delay 1] .ready, record 8#16 [.delay 1] .queued]) [0x03#8, 0#8])
    (fun t => (replied t, ended t)) =
      some (some (.accepted, [0#8, 2#8, 0#8]), [some (.cancelled .byFlush), some (.cancelled .byFlush)]) := by decide +kernel

theorem test_flush_pending_abort : after .flush (asks (busy .read [.read 3#16 2 true]) [0x03#8, 0#8]) replied =
    some (some (.accepted, [0#8, 0#8, 1#8])) := by decide +kernel

theorem test_configure : after .configureWindow (asks up ([0x04#8, 2#8] ++ Profile.default.bytes ++ [1#8]))
    (fun t => (replied t, (t.window 2).state)) = some (some (.accepted, [2#8, 1#8]), .enabled) := by decide +kernel

/-- R59: PINS, width 8, SINGLE with 9 address bits. -/
theorem test_configure_illegal : after .configureWindow (asks up ([0x04#8, 2#8]
    ++ { Profile.default with addressMode := .single, addressBits := 9 : Profile }.bytes ++ [1#8])) replied =
      some (some (.badValue, [2#8])) := by decide +kernel

theorem test_clearFault_discard : after .clearFault
    (asks (win .faulted Profile.default [record 7#16 [.delay 1] .queued]) [0x05#8, 0#8, 1#8])
    (fun t => (replied t, ended t)) = some (some (.accepted, [0#8, 1#8]), [some (.cancelled .byFaultDiscard)]) := by decide +kernel

theorem test_clearFault_notFaulted : after .clearFault (asks (queued []) [0x05#8, 0#8, 0#8]) replied =
    some (some (.notFaulted, [0#8])) := by decide +kernel

/-- R141: a level mode set at the active level records one event at once. -/
theorem test_setup_level : after .setupAttention (asks up [0x06#8, 3#8, 2#8, 1#8, 0#8, 1#8])
    (fun t => (replied t, (t.line 3).count, (t.line 3).stamp)) = some (some (.accepted, [3#8]), 1, some 1) := by decide +kernel

theorem test_acknowledge : after .acknowledgeAttention
    (asks (line 5 (fun x => { x with outstanding := true }) up) [0x07#8, 5#8])
    (fun t => (replied t, (t.line 5).outstanding)) = some (some (.accepted, [5#8]), false) := by decide +kernel

theorem test_acknowledge_refused : after .acknowledgeAttention (asks up [0x07#8, 8#8]) replied =
    some (some (.badLine, [8#8])) := by decide +kernel

theorem test_hold_idle : after .hold (asks up [0x08#8]) (fun t => (replied t, t.sch.hold)) =
    some (some (.held, [0#8]), true) := by decide +kernel

theorem test_hold_waits : after .hold (asks (busy .write [.write 3#16 0x55#16]) [0x08#8]) (fun t => (replied t, t.dsp.holdWait)) =
    some (none, some 1#16) := by decide +kernel

theorem test_resume : after .resume (asks { up with sch.hold := true } [0x09#8]) (fun t => (replied t, t.sch.hold)) =
    some (some (.accepted, []), false) := by decide +kernel

theorem test_resume_notHeld : after .resume (asks up [0x09#8]) replied = some (some (.notHeld, [])) := by decide +kernel

theorem test_setSharing_releases : after .setSharing (asks { up with breq := true } [0x0A#8, 1#8, 100#8, 0#8])
    (fun t => (replied t, t.bus.ownership)) = some (some (.accepted, [1#8, 100#8, 0#8]), .released) := by decide +kernel

theorem test_setSharing_refused : after .setSharing (asks up [0x0A#8, 2#8, 0#8, 0#8]) replied =
    some (some (.badValue, [])) := by decide +kernel

theorem test_setLink_edge : after .setLink (asks up [0x0B#8, 200#8]) (fun t => t.lnk.timeout) = some 200 := by decide +kernel

theorem test_setLink_refused : after .setLink (asks up [0x0B#8, 4#8]) replied = some (some (.badValue, [])) := by decide +kernel

theorem test_resetDevice : after .resetDevice (asks (queued [record 7#16 [.delay 1] .queued]) [0x0C#8])
    (fun t => (replied t, t.live.length, t.lnk.cause, t.dsp.count)) = some (none, 0, .soft, 0#16) := by decide +kernel

theorem test_queryDevice : after .queryDevice (asks (queued [record 7#16 [.delay 1] .queued]) [0x0D#8]) replied =
    some (some (.accepted, [0x20#8, 0x41#8, 1#8, 47#8, 0#8, 0#8, 0#8, 0#8, 0#8, 0#8, 0#8, 0#8, 0#8])) := by decide +kernel

theorem test_queryWindow : after .queryWindow (asks (queued [record 7#16 [.delay 1] .queued]) [0x0E#8, 0#8])
    (fun t => (replied t).map fun p => (p.1, p.2.take 3, p.2.drop 20)) =
      some (some (.accepted, [1#8, 0#8, 8#8], [1#8, 7#8, 0#8, 1#8])) := by decide +kernel

theorem test_queryTransaction : after .queryTransaction (asks (queued [record 7#16 [.delay 1] .queued]) [0x0F#8, 7#8, 0#8]) replied =
    some (some (.accepted, [0#8, 1#8, 0#8, 0#8])) := by decide +kernel

theorem test_queryAttention : after .queryAttention (asks up [0x10#8]) (fun t => (replied t).map fun p => p.2.length) =
    some (some 88) := by decide +kernel

theorem test_queryLink : after .queryLink (asks { up with lnk.counters.gap := 0x102 } [0x11#8, 1#8])
    (fun t => (replied t, t.lnk.counters.gap)) =
      some (some (.accepted, [0#8, 0#8, 2#8, 1#8, 0#8, 0#8, 0#8, 0#8, 0#8, 0#8, 0#8, 0#8, 0#8, 0#8, 20#8]), 0) := by decide +kernel

theorem test_unknownRequest : after .unknownRequest (asks up [0x12#8]) replied = some (some (.badFormat, [])) := by decide +kernel

/-! ## The link -/

/-- R176, R180: in order; a NAK that an out-of-order frame has made due is sent all the same. -/
theorem test_dataFrame : after .dataFrame (gathers { (sends .ack up) with lnk.nakOutOfOrder := true } 0x01#8 0x00#8 [0x0D#8])
    (fun t => (t.lnk.intake, t.lnk.rxExpected, t.lnk.ackOwed, t.lnk.nakOutOfOrder)) = some ([[0x0D#8]], 1#4, .since 0, true) := by
  decide +kernel

/-- R165, R178, R185: a duplicate whose acknowledgement frees an entry lets a report be taken before the ACK it requests. -/
theorem test_dataFrame_duplicate : after .dataFrame (gathers { up with
      lnk.replay := [frame 0#4 .ended, frame 1#4 .ended, frame 2#4 .ended, frame 3#4 .ended], rpt.queue := [(frame 4#4 .ended).report] }
      0x01#8 0xF1#8 [0x0D#8])
    (fun t => (t.lnk.intake, t.lnk.counters.duplicate, t.lnk.tx, t.drain.lnk.tx.map TxFrame.kind)) =
      some ([], 1, none, some (.data (some 4#16))) := by decide +kernel

theorem test_ackFrame : after .ackFrame (gathers { up with lnk.replay := [frame 0#4 .ended, frame 1#4 .ended] } 0x02#8 0x01#8 [])
    (fun t => t.lnk.replay.map ReplayFrame.seq) = some [1#4] := by decide +kernel

theorem test_nakFrame : after .nakFrame (gathers { (sends .ack up) with lnk.replay := [frame 2#4 .ended] } 0x03#8 0x02#8 [])
    (fun t => (t.lnk.resendPoint, t.lnk.timer)) = some (some 2#4, some 800000) := by decide +kernel

theorem test_resync : after .resync (gathers { up with lnk.state := .start, lnk.replay := [frame 7#4 .ended] } 0x04#8 0x00#8 [])
    (fun t => (t.lnk.state, t.lnk.replay.map ReplayFrame.seq, t.lnk.txNext, t.lnk.tx.map TxFrame.kind)) =
      some (.up, [0#4], 1#4, some .resyncReply) := by decide +kernel

theorem test_hostResyncReply : after .hostResyncReply (gathers up 0x05#8 0x00#8 []) (fun t => t.lnk.gathered) = some none := by
  decide +kernel

theorem test_unknownControlFrame : after .unknownControlFrame (gathers up 0x06#8 0x00#8 []) (fun t => t.lnk.gathered) =
    some none := by decide +kernel

theorem test_crcError : after .crcError { up with lnk.gathered := some [2#8, 2#8, 0#8, 0#8, 0#8] }
    (fun t => (t.lnk.counters.crc, t.lnk.nak, t.lnk.tx.map TxFrame.kind)) = some (1, .sent, some .nak) := by decide +kernel

theorem test_gapError : after .gapError { up with lnk.receiver := .inside [5#8] 10 }
    (fun t => (t.now, t.lnk.counters.gap, t.lnk.receiver)) = some (80010, 1, .hunting) := by decide +kernel

theorem test_byteReceived_sync : after (.byteReceived 0x5A#8) up (fun t => t.lnk.receiver) = some (.inside [] 0) := by decide +kernel

theorem test_byteReceived_bad_length : after (.byteReceived 247#8) { up with lnk.receiver := .inside [] 0 }
    (fun t => t.lnk.receiver) = some .hunting := by decide +kernel

theorem test_ackRequested : after .ackRequested { up with lnk.ackOwed := .since 0 }
    (fun t => (t.now, t.lnk.tx.map TxFrame.kind)) = some (40000, some .ack) := by decide +kernel

theorem test_frameTransmitEnd : after .frameTransmitEnd (sends .resyncReply up) (fun t => (t.lnk.cause, t.lnk.tx)) =
    some (.none, none) := by decide +kernel

/-- R173: 0x5A on the line at 115200 bit/s, 347 ticks a bit: start bit, 0, 1, 0, 1, 1, 0, 1, 0, stop bit, idle. -/
theorem test_txd : ([0, 400, 750, 1100, 1450, 1800, 2100, 2500, 2800, 3200, 3500].map fun n =>
    State.txd { up with now := n, lnk.tx := some { kind := .ack, bytes := [0x5A#8], begun := 0 } }) =
      [false, false, true, false, true, true, false, true, false, true, true] := by decide +kernel

theorem test_retransmission_stalls : after .retransmissionTimeout
    { up with lnk.timer := some 5, lnk.retry := 7, lnk.replay := [frame 0#4 .ended] }
    (fun t => (t.lnk.state, t.lnk.retry, t.lnk.tx.map TxFrame.kind)) = some (.stalled, 8, some .resync) := by decide +kernel

theorem test_announceTimer : after .announceTimer { up with lnk.state := .stalled, lnk.announce := some 9 }
    (fun t => (t.lnk.announce, t.lnk.tx.map TxFrame.kind)) = some (some 4000009, some .resync) := by decide +kernel

theorem test_reportTake : after .reportTake { (sends .ack up) with rpt.queue := [(frame 0#4 .ended).report] }
    (fun t => (t.rpt.queue.length, t.lnk.replay.length, t.lnk.txNext)) = some (0, 1, 1#4) := by decide +kernel

theorem test_reportAdmission_guard : after .reportAdmission { (line 2 (fun x => { x with
      mode := .rise, count := 3, report := true, stamp := some 1 }) up) with
      rpt.starvation := 4, rpt.overrun := some { limit := 5, window := none, count := 1 } }
    (fun t => (t.rpt.queue.map Report.content, t.rpt.starvation, (t.line 2).count)) =
      some ([.attention 2 3 false false .rise], 0, 0) := by decide +kernel

/-! ## The Scheduler and the bus -/

theorem test_grant : after (.grant true) (queued [record 7#16 [.write 3#16 5#16] .queued])
    (fun t => (head t, t.sch.grant, t.bus.access.map Access.addr)) = some (some (.running, 0), some 0, some 3#16) := by decide +kernel

/-- R40: after a DELAY that ended at tick 200 the access begins no sooner than the recovery time later, and at the grant (R92). -/
theorem test_grant_spaced : after (.grant true)
    { (queued [{ record 7#16 [.delay 5, .write 3#16 5#16] .ready with opIndex := 1 }]) with
      now := 201, sch.delayEnds := Vector.replicate 6 (some 200), bus.recovery := Vector.replicate 6 (some 0) }
    (fun t => (t.now, t.bus.access.map Access.start)) = some (202, some 202) := by decide +kernel

/-- R92: 2 ticks after the deassertion the waiting access begins; the timer keeps its start for a longer value (R60). -/
theorem test_recoveryEnd : after (.recoveryEnd 0)
    { (running [.write 3#16 5#16]) with bus.recovery := Vector.replicate 6 (some 100) }
    (fun t => (t.now, t.bus.access.map Access.start, t.bus.recovery[(0 : Fin 6)])) = some (102, some 102, some 100) := by
  decide +kernel

/-- R55: at a scratch target recovery places no constraint. -/
theorem test_recoveryEnd_scratch : after (.recoveryEnd 0)
    { (busyScratch .write [.write 3#16 0x55#16]) with bus.access := none, bus.recovery := Vector.replicate 6 (some 100) }
    (fun t => (t.now, t.bus.access.map Access.start)) = some (0, some 0) := by decide +kernel

/-- R30: the first unit of a READ is appended; the default access takes 1 + 4 + 1 ticks (Table 5–2). -/
theorem test_accessCompletion : after (.accessCompletion 0xABCD#16 []) (busy .read [.read 3#16 2 true])
    (fun t => (t.now, (t.head 0).map fun r => (r.unitIndex, r.data))) = some (6, some (1, [0xCD#8])) := by decide +kernel

/-- R87, R94: 6 ticks after its begin (setup 1, strobe 4, RDY asserted in its last tick) the access is in its hold tick. -/
theorem test_accessCompletion_hold :
    let q := State.pins { (busy .write [.write 3#16 0x55#16]) with
      now := 5, win := (win .enabled waitsReady [record 7#16 [.write 3#16 0x55#16] .running]).win } 0#16 [false, false, false, true]
    (q.cs[(0 : Fin 6)], q.wrs, q.dLow) = (.low, .high, some 0x55#8) := by decide +kernel

theorem test_scratchAccessCompletion : after .scratchAccessCompletion (busyScratch .write [.write 3#16 0x55#16])
    (fun t => (t.now, t.bus.scratch, ended t)) = some (2, [(3, 0x55#8)], [some .done]) := by decide +kernel

theorem test_readyTimeout : after .readyTimeout { (busy .write [.write 3#16 0x55#16]) with
      win := (win .enabled { Profile.default with readyMode := .wait } [record 7#16 [.write 3#16 0x55#16] .running]).win }
    (fun t => (t.now, (t.window 0).state, ended t)) = some (261, .faulted, [some (.failed .readyTimeout)]) := by decide +kernel

theorem test_pollTimerExpiry : after (.pollTimerExpiry 0) (parked [.poll 1#16 1#16 1#16 5 9] (.timer 200))
    (fun t => (t.now, head t)) = some (200, some (.ready, 0)) := by decide +kernel

theorem test_delayExpiry_last : after (.delayExpiry 0) (parked [.delay 5] (.timer 200)) (fun t => (ended t, t.queue 0)) =
    some ([some .done], []) := by decide +kernel

/-- R92: the end of a DELAY starts no recovery timer. -/
theorem test_delayExpiry_recovery : after (.delayExpiry 0)
    { (parked [.delay 5, .write 3#16 5#16] (.timer 200)) with bus.recovery := Vector.replicate 6 (some 10) }
    (fun t => (head t, t.bus.recovery[(0 : Fin 6)], t.sch.delayEnds[(0 : Fin 6)])) = some (some (.ready, 1), some 10, some 200) := by
  decide +kernel

theorem test_waitTimeout : after (.waitTimeout 0)
    (line 2 (fun x => { x with mode := .rise, waiters := [7#16] }) (parked [.waitAttention 2 1] (.attention 2 (some 40000))))
    (fun t => (ended t, (t.line 2).waiters)) = some ([some (.failed .waitTimeout)], []) := by decide +kernel

/-- R128: a change that has held filter + 1 µs by the deadline is recognised before it, and delivers. -/
theorem test_waitTimeout_late : after (.waitTimeout 0)
    (line 2 (fun x => { x with mode := .rise, filter := 2, waiters := [7#16], pendingChange := some (true, 10) })
      (parked [.waitAttention 2 1, .delay 5] (.attention 2 (some 40000))))
    (fun t => (head t, t.now)) = some (some (.ready, 1), 90) := by decide +kernel

theorem test_breqAsserted : after .breqAsserted { up with bus.shareEnable := true } (fun t => t.bus.ownership) =
    some .released := by decide +kernel

theorem test_breqDeasserted_early : after .breqDeasserted { up with
      bus.ownership := .released, bus.release := some { at_ := 0, start := none, displaced := none, overrun := false } }
    (fun t => t.bus.ownership) = some .released := by decide +kernel

theorem test_bgntAssertion : after .bgntAssertion { up with
      breq := true, bus.ownership := .released, bus.release := some { at_ := 0, start := none, displaced := none, overrun := false } }
    (fun t => ((t.pins 0#16 []).bgnt, t.bus.release.map Release.start)) = some (true, some (some 2)) := by decide +kernel

/-- R101, R102: with BREQ withdrawn BGNT is asserted all the same, and the release then ends. -/
theorem test_bgntAssertion_withdrawn : after .bgntAssertion { up with
      bus.ownership := .released, bus.release := some { at_ := 0, start := none, displaced := none, overrun := false } }
    (fun t => ((t.pins 0#16 []).bgnt, t.drain.bus.ownership, (t.drain.pins 0#16 []).bgnt)) = some (true, .owned, false) := by
  decide +kernel

theorem test_shareOverrunRaise : after .shareOverrunRaise { up with
      breq := true, bus.shareLimit := 10, bus.ownership := .released
      bus.release := some { at_ := 0, start := some 2, displaced := some 4, overrun := false } }
    (fun t => (t.now, t.rpt.overrun)) = some (402, some { limit := 10, window := some 4, count := 1 }) := by decide +kernel

/-! ## Attention lines and resets -/

/-- R128: with filter 0 the change is recognised in the tick of its first sample. -/
theorem test_attentionInputChange : after (.attentionInputChange 1 true) up
    (fun t => ((t.line 1).pendingChange, t.due, (t.drain.line 1).level, t.drain.now)) =
      some (some (true, 0), some (.change 1), true, 0) := by decide +kernel

/-- R128: a change that has held filter + 1 µs is recognised before the input's next change is acted on. -/
theorem test_attentionInputChange_late : after (.attentionInputChange 1 false)
    (line 1 (fun x => { x with mode := .rise, filter := 2, pendingChange := some (true, 10) }) { up with now := 131 })
    (fun t => ((t.line 1).count, (t.line 1).level, (t.line 1).pendingChange)) = some (1, true, some (false, 131)) := by decide +kernel

/-- R128: of two lines whose changes are over, the one whose filter time was over first is recognised first. -/
theorem test_changeRecognised_order : after (.changeRecognised 1)
    (line 1 (fun x => { x with mode := .rise, filter := 9, pendingChange := some (true, 10) })
      (line 5 (fun x => { x with mode := .rise, filter := 2, pendingChange := some (true, 20) }) { up with now := 500 }))
    (fun t => ((t.line 1).stamp, (t.line 5).stamp)) = some (some 2, some 1) := by decide +kernel

theorem test_changeRecognised : after (.changeRecognised 1)
    (line 1 (fun x => { x with mode := .rise, filter := 2, pendingChange := some (true, 10) }) up)
    (fun t => (t.now, (t.line 1).count, (t.line 1).stamp)) = some (90, 1, some 1) := by decide +kernel

theorem test_powerOnReset : after .powerOnReset { up with bus.scratch := [(3, 1#8)] }
    (fun t => (t.bus.scratch, t.lnk.cause, t.holding)) = some ([], .power, true) := by decide +kernel

theorem test_pinReset : after .pinReset { up with bus.scratch := [(3, 1#8)] } (fun t => (t.bus.scratch, t.lnk.cause)) =
    some ([(3, 1#8)], .pin) := by decide +kernel

/-- R120, R122: a second reset in the tick of a first leaves its pins. -/
theorem test_pinReset_again : after .pinReset { up with bus.resetPins := some (0, floatingPins false) }
    (fun t => (t.pins 0#16 [], ({ t with now := 1 }.pins 0#16 []).rds)) = some (floatingPins false, .high) := by decide +kernel

theorem test_resetRelease : after (.resetRelease 3#2 0x81#8) State.reset
    (fun t => ((t.line 7).level, (t.line 1).level, t.lnk.tx.map TxFrame.kind)) = some (true, false, some .resync) := by decide +kernel

/-! ## Witnesses: for each statement with hypotheses, states and operands that meet them -/

/-- `c` completes in `s` and the reply of its request carries `code`. -/
abbrev repliesWith (c : Instr) (s : State) (code : ResultCode) : Prop := after c s (fun t => t.dsp.slot.map Reply.code) = some (some code)

/-- The next step completes. -/
def goesOn (s : State) : Bool :=
  match step s with
  | .next _ => true
  | .fault _ | .refused _ => false

theorem next_of_goesOn {s : State} (h : goesOn s = true) : ∃ t, step s = .next t := by
  unfold goesOn at h
  split at h
  · exact ⟨_, by assumption⟩
  · cases h
  · cases h

theorem witness_StepRunsCommand : ({ up with pending := [.submit, .hold] } : State).pending = .submit :: [.hold] ∧
    up.pending = [] ∧ up.dueBy (up.now + 1) = none := by decide +kernel

/-- A change of line 2, whose filter time is 2 µs, has been pending since tick 10. -/
def changing (s : State) : State :=
  line 2 (fun x => { x with mode := .rise, filter := 2, pendingChange := some (true, 10) }) s

/-- What carries the clock to tick 131, before which that change is recognised. -/
def tick131 (s : State) : State := s.reach 131

theorem witness_DrainSettles : (∀ t : State, t.now ≤ (tick131 t).now) ∧
    (∀ s ∈ [asks twoLive [0x0D#8], twoLive, changing up], (s.dueBy (tick131 s).now).isSome = true) ∧
    (changing up).dueBy 131 = some (.change 2) ∧ (asks twoLive [0x0D#8]).due = some .request ∧ twoLive.due = some .admission :=
  ⟨fun t => by show t.now ≤ max t.now 131; omega, by decide +kernel, by decide +kernel, by decide +kernel, by decide +kernel⟩

theorem witness_EventFollowsDueSteps :
    Instr.gapError.outside = true ∧ Instr.breqAsserted.outside = true ∧ Instr.breqDeasserted.outside = true ∧
    up.holding = false ∧ State.reset.holding = true ∧
    (let s := { (changing up) with lnk.ackOwed := .since 91 }
     s.holding = false ∧ s.due = none ∧ s.requestAck.now = 40091 ∧ s.dueBy s.requestAck.now = some (.change 2)) ∧
    (∃ t, exec (.attentionInputChange 1 true) up = .next t ∧ (t.line 1).pendingChange = some (true, 0)) ∧
    twoLive.dueBy (twoLive.takeDue .admission).now = some .admission ∧ twoLive.holding = false ∧
    (asks twoLive [0x0D#8]).due = some .request ∧ (Due.request ≠ .admission ∧ Due.request ≠ .report ∧ Due.request ≠ .change 1) ∧
    ({ up with rpt.queue := [(frame 0#4 .ended).report] } : State).due = some .report ∧
    (line 1 (fun x => { x with pendingChange := some (true, 0) }) up).due = some (.change 1) ∧
    (line 1 (fun x => { x with pendingChange := some (true, 0) }) twoLive).due = some .admission ∧
    Due.admission ≠ .change 1 :=
  ⟨by decide +kernel, by decide +kernel, by decide +kernel, by decide +kernel, by decide +kernel, by decide +kernel,
    ⟨_, rfl, by decide +kernel⟩, by decide +kernel, by decide +kernel, by decide +kernel, by decide +kernel, by decide +kernel,
    by decide +kernel, by decide +kernel, by decide +kernel⟩

theorem witness_ResetsFromOutside :
    (let s := busyScratch .write [.write 3#16 5#16]
     (s.bus.resetPins = none ∧ s.bus.release = none) ∧ s.bus.access = some (access .write)) ∧
    (let s := { up with now := 1, bus.release := some { at_ := 0, start := some 1, displaced := none, overrun := false } }
     s.bus.resetPins = none ∧ s.bus.release = some { at_ := 0, start := some 1, displaced := none, overrun := false } ∧ 0 < s.now) ∧
    (∀ n ∈ [0, 1], let s := { up with now := n, bus.resetPins := some (0, floatingPins false) }
      s.bus.resetPins = some (0, floatingPins false) ∧ (if n = 0 then s.now ≤ 0 else 0 < s.now)) := by decide +kernel

theorem witness_ResetDevice : (asks (busy .write [.write 3#16 5#16]) [0x0C#8]).offers [0x0C#8] [] ∧
    (asks up [0x0C#8]).offers [0x0C#8] [] ∧ (asks up [0x0C#8]).holding = false ∧ (asks up [0x0C#8]).bus.access = none := by
  decide +kernel

theorem witness_ResetRelease : State.reset.holding = true ∧ State.reset.blocksReset .power ∧ State.reset.lnk.tx = none ∧
    State.reset.lnk.resyncReplyDue = false := by
  refine ⟨rfl, ⟨?_, rfl, rfl, rfl, rfl, rfl, rfl, rfl, rfl, rfl, rfl, rfl, ?_, rfl, rfl, rfl, rfl, rfl, rfl, rfl, rfl, rfl, rfl, rfl,
    rfl, rfl, rfl, rfl, rfl, rfl, rfl⟩, rfl, rfl⟩ <;> decide +kernel

/-- A state at several of its bounds: 32 reports, 4 frames, 8 messages, retry count 7. -/
def atBounds : State := { up with
  lnk.replay := [frame 0#4 .ended, frame 1#4 .ended, frame 2#4 .ended, frame 3#4 .ended], lnk.retry := 7
  lnk.intake := List.replicate 8 [0x0D#8], rpt.starvation := 4, rpt.queue := List.replicate 32 (frame 0#4 .ended).report
  dsp.slot := some { kind := 0x08#8, count := 1#16, code := .held, body := [0#8] }, pending := [.reportAdmission] }

theorem witness_LinkStaysBounded : atBounds.linkBounded = true ∧ ∃ t, step atBounds = .next t :=
  ⟨by decide +kernel, next_of_goesOn (by decide +kernel)⟩

/-- A window with a full queue of eight, its head RUNNING, its access at its end. -/
def fullQueue : State := { (busy .read [.read 3#16 1 true]) with
  win := (queued (record 7#16 [.read 3#16 1 true] .running ::
    [8#16, 9#16, 10#16, 11#16, 12#16, 13#16, 14#16].map fun t => record t [.delay 1] .queued)).win
  pending := [.accessCompletion 5#16 []] }

theorem witness_PoolStaysBounded : fullQueue.poolBounded = true ∧ ∃ t, step fullQueue = .next t :=
  ⟨by decide +kernel, next_of_goesOn (by decide +kernel)⟩

theorem witness_TagsStayDistinct : fullQueue.disciplined = true ∧ fullQueue.tagsDistinct = true ∧
    ∃ t, step fullQueue = .next t :=
  ⟨by decide +kernel, by decide +kernel, next_of_goesOn (by decide +kernel)⟩

theorem witness_QueuesStayDisciplined : fullQueue.tagsDistinct = true ∧ fullQueue.disciplined = true ∧
    ∃ t, step fullQueue = .next t :=
  ⟨by decide +kernel, by decide +kernel, next_of_goesOn (by decide +kernel)⟩

/-- A scratch write of the last unit is at its end. -/
def lastScratch : State := { (busyScratch .write [.write 511#16 5#16]) with
  bus.access := some { access .write with addr := 511#16 }, bus.scratch := [(0, 1#8), (511, 2#8)], pending := [.scratchAccessCompletion] }

theorem witness_ScratchStaysCanonical : lastScratch.scratchCanonical = true ∧
    ∃ t, step lastScratch = .next t :=
  ⟨by decide +kernel, next_of_goesOn (by decide +kernel)⟩

/-- Two lines hold stamps, and the older one's notice is admitted. -/
def stamped : State := { (line 2 (fun x => { x with mode := .rise, count := 255, report := true, stamp := some 1 })
  (line 5 (fun x => { x with mode := .both, count := 1, stamp := some 2 }) up)) with pending := [.reportAdmission] }

theorem witness_StampsStayRanked : stamped.stampsRanked = true ∧ ∃ t, step stamped = .next t :=
  ⟨by decide +kernel, next_of_goesOn (by decide +kernel)⟩

/-- A queue whose members' epochs differ, the oldest 96 behind the counter. -/
def epochsApart : State := { (queued [{ record 7#16 [.delay 1] .ready with epoch := 65535#16 }, { record 8#16 [.delay 1] .queued with
  epoch := 90#16 }]) with epoch := 95#16, pending := [.grant true] }

theorem witness_EpochsStayOrdered : epochsApart.epochsOrdered = true ∧ epochsApart.epochDistance (record 7#16 [] .ready) = 95 ∧
    epochsApart.epochDistance { record 7#16 [] .ready with epoch := 65535#16 } = 96 ∧ ∃ t, step epochsApart = .next t :=
  ⟨by decide +kernel, by decide +kernel, by decide +kernel, next_of_goesOn (by decide +kernel)⟩

/-- Two windows' heads are PARKED on line 2, and its change is about to be recognised. -/
def waitsTwice : State :=
  let a := { record 7#16 [.waitAttention 2 1, .delay 5] .parked with wake := some (.attention 2 (some 40000)) }
  let b := { record 8#16 [.waitAttention 2 0] .parked with wake := some (.attention 2 none), window := 3 }
  let s := (queued [a]).setWindow 3 { state := .enabled, profile := Profile.default, queue := [b] }
  { (line 2 (fun x => { x with mode := .both, filter := 2, waiters := [7#16, 8#16], pendingChange := some (true, 10) }) s) with
    pending := [.changeRecognised 2] }

theorem witness_WaitersStayRegistered : waitsTwice.tagsDistinct = true ∧ waitsTwice.disciplined = true ∧
    waitsTwice.waitersRegistered = true ∧ ∃ t, step waitsTwice = .next t :=
  ⟨by decide +kernel, by decide +kernel, by decide +kernel, next_of_goesOn (by decide +kernel)⟩

/-- A transaction has appended 191 of its 192 bytes, and a full reply and a full report wait. -/
def fullReports : State :=
  let r := { record 7#16 [.read 3#16 64 true, .read 3#16 64 true, .read 3#16 64 true] .running with
    opIndex := 2, unitIndex := 63, data := List.replicate 191 0#8 }
  let full := ReportContent.completion 9#16 0 1#16 (some .done) 3 none 0 (List.replicate 192 0#8)
  { (queued [r]) with
    sch.grant := some 0, bus.access := some (access .read)
    dsp.slot := some { kind := 0x10#8, count := 1#16, code := .accepted, body := List.replicate 88 0#8 }
    rpt.queue := List.replicate 32 { serial := 5#16, content := full }
    lnk.replay := List.replicate 4 { seq := 0#4, sent := .ended, report := { serial := 4#16, content := full } }
    pending := [.accessCompletion 5#16 []] }

theorem witness_ReportsStayBounded : fullReports.disciplined = true ∧ fullReports.reportsBounded = true ∧
    (fullReports.rpt.queue.map fun r => r.bytes.length) = List.replicate 32 207 ∧ ∃ t, step fullReports = .next t :=
  ⟨by decide +kernel, by decide +kernel, by decide +kernel, next_of_goesOn (by decide +kernel)⟩

/-- One operation of each kind, at the ends of its ranges. -/
def someOps : List Op :=
  [.write 0xFFFF#16 0#16, .writeBlock 1#16 true (List.replicate 32 0xFFFF#16), .read 2#16 64 false, .modify 3#16 1#16 2#16 true,
    .poll 4#16 0xFF#16 1#16 0xFFFF 255, .scan 5#16 255 true 1#16 2#16 .ge true, .waitAttention 7 0xFFFF, .delay 1]

/-- The profile with every number at the top of its range. -/
def topProfile : Profile := { Profile.default with
  width := .w16, addressBits := 16, addressMode := .double, elide := true, addressPhase := 15, setup := 15, strobe := 63, hold := 15
  recovery := 63, readyMode := .wait, readyLimit := 1023, queueLimit := 16, softStop := true }

theorem witness_FormatsReadBack : someOps.all Op.inRange = true ∧
    parseOps 8 (someOps.flatMap Op.bytes) = some someOps ∧ parseOps 0 [] = some [] ∧
    Profile.default.inRange = true ∧ topProfile.inRange = true ∧
    profileAt ([0#8] ++ topProfile.bytes ++ [1#8]) 1 = some topProfile := by decide +kernel

theorem witness_FrameReadBack : up.lnk.receiver = .hunting ∧ (List.replicate 244 0x5A#8).length ≤ 244 ∧
    (List.replicate 0 0x5A#8).length ≤ 244 := by decide +kernel

theorem witness_SerialLine : up.lnk.tx = none ∧
    ∀ x ∈ [(0, 0, 0), (347, 0, 0), (348, 0, 1), (3472, 0, 9), (3473, 1, 0), (6944, 1, 9), (7000, 2, 0)],
      let s := { (sends .ack up) with now := x.1 }
      (s.now - 0) * 115200 / 40000000 = 10 * x.2.1 + x.2.2 ∧ x.2.2 < 10 ∧ s.lnk.baud.toNat = 0 := by decide +kernel

theorem witness_ReportBytes : (fullReports.rpt.queue.all fun r => match r.content with
      | .completion _ _ _ _ _ _ _ data => decide (data.length ≤ 192)
      | .reply x => decide (x.body.length ≤ 88)
      | .attention _ _ _ _ _ | .shareOverrun _ _ _ => true) = true ∧
    (asks up [0x10#8]).dsp.slot = none ∧
    (asks up [0x10#8]).takeRequest.dsp.slot.map (fun r => r.body.length) = some 88 := by decide +kernel

theorem witness_ScratchUnits : scratchWf [(0, 1#8), (511, 2#8)] = true := by decide +kernel

/-- Each kind with a message one byte too long, SUBMIT with one too short; and both ways a kind is unknown. -/
theorem witness_RequestFormat :
    (∀ m ∈ [[], [0#8], [18#8], [255#8]], (asks up m).offers m [] ∧ ((m.headD 0#8).toNat = 0 ∨ 17 < (m.headD 0#8).toNat)) ∧
    ∀ k ∈ allKinds, let m := k.code :: List.replicate (if k = .submit then 5 else k.length) 0#8
      (asks up m).offers m [] ∧ m.headD 0#8 = k.code ∧ (if k = .submit then m.length < 7 else m.length ≠ k.length) ∧
        repliesWith k.command (asks up m) .badFormat := by decide +kernel

/-- Forty-seven live records, seven of them in window 0. -/
def nearlyFull : State := { (queued ((List.range 7).map fun n => record (BitVec.ofNat 16 (n + 1)) [.delay 1] .queued)) with
  rpt.backlog := (List.range 40).map fun n =>
    (record (BitVec.ofNat 16 (n + 101)) [.delay 1] .queued).ended (.cancelled .byCancel) 0 none 0 }

theorem witness_SubmitAccepted :
    ∀ cls ∈ [TxClass.normal, .urgent], ∀ barrier ∈ [false, true],
      let ops := Op.read 3#16 64 true :: Op.read 3#16 64 true :: Op.read 3#16 64 false :: List.replicate 13 (Op.delay 1)
      let m := [0x01#8] ++ wordBytes 9#16 ++ [byteOf (0 : Fin 6).val, if cls = TxClass.urgent then 1#8 else 0#8, flagByte barrier,
        byteOf ops.length] ++ ops.flatMap Op.bytes
      let s := asks nearlyFull m
      s.offers m [] ∧ (9#16 : Word) ≠ 0#16 ∧ (s.window 0).state = .enabled ∧ ops.length = 16 ∧ ops.all Op.inRange = true ∧
        ops.all (Op.fitsWidth (s.window 0).profile.width) = true ∧
        ops.all (Op.fitsAddress (s.window 0).profile.addressBits) = true ∧
        resultSize (s.window 0).profile.width ops = 192 ∧ (∀ r ∈ s.live, r.tag ≠ 9#16) ∧ s.live.length = 47 ∧ s.epochReach ≤ 94 ∧
        (s.queue 0).length + 1 = (s.window 0).profile.queueLimit := by decide +kernel

/-- A SUBMIT of tag `tag` to window `w` with one operation. -/
def submitOne (tag : Word) (w cls barrier : Byte) (op : Op) : Message :=
  [0x01#8] ++ wordBytes tag ++ [w, cls, barrier, 1#8] ++ op.bytes

/-- Each check of a SUBMIT fails somewhere, and none does. -/
theorem witness_SubmitCheckOrder :
    ∀ x ∈ [(up, [0x01#8, 0#8], ResultCode.badFormat), (up, submitOne 0#16 6#8 0#8 0#8 (.delay 1), .badTag),
        (up, submitOne 1#16 6#8 0#8 0#8 (.delay 1), .badWindow), (up, submitOne 1#16 5#8 0#8 0#8 (.delay 0), .windowDisabled),
        (win .faulted Profile.default [], submitOne 1#16 0#8 0#8 0#8 (.delay 0), .windowFaulted),
        (queued [], submitOne 1#16 0#8 2#8 0#8 (.delay 0), .badOperation),
        (queued [], submitOne 1#16 0#8 2#8 0#8 (.write 256#16 0#16), .badValue),
        (queued [], submitOne 1#16 0#8 0#8 2#8 (.write 256#16 0#16), .badValue),
        (queued [], submitOne 1#16 0#8 0#8 0#8 (.write 256#16 256#16), .badValue),
        (queued [], submitOne 1#16 0#8 0#8 0#8 (.write 256#16 255#16), .addrRange),
        (win .enabled { Profile.default with width := .w16 } [record 1#16 [] .queued],
          [0x01#8, 1#8, 0#8, 0#8, 0#8, 0#8, 3#8] ++ (Op.read 0#16 64 false).bytes ++ (Op.read 0#16 32 false).bytes ++
            (Op.scan 0#16 1 false 0#16 0#16 .eq false).bytes,
          .resultTooLarge),
        (queued [record 1#16 [] .queued], submitOne 1#16 0#8 0#8 0#8 (.delay 1), .dupTag),
        ({ nearlyFull with win := (nearlyFull.setQueue 1 [record 99#16 [] .queued]).win }, submitOne 200#16 0#8 0#8 0#8 (.delay 1),
          .poolFull),
        (win .enabled { Profile.default with queueLimit := 7 } (nearlyFull.queue 0), submitOne 200#16 0#8 0#8 0#8 (.delay 1),
          .queueFull),
        (nearlyFull, submitOne 200#16 0#8 1#8 1#8 (.write 255#16 255#16), .accepted)],
      (asks x.1 x.2.1).offers x.2.1 [] ∧ x.2.1.headD 0#8 = 0x01#8 ∧ repliesWith .submit (asks x.1 x.2.1) x.2.2 := by decide +kernel

/-- Window 0 holds a head in the given state, and a second record. -/
def two (state : TxState) (wake : Option Wake) (abort : Option CancelCause) : State := { queued
    [{ record 7#16 [.waitAttention 2 0] state with wake := wake, abort := abort }, record 8#16 [.delay 1] .queued] with
  sch.grant := if state = .running then some 0 else none }

theorem witness_Cancel :
    ((∀ x ∈ [(TxState.queued, (none : Option Wake)), (.ready, none), (.parked, some (.timer 5)), (.parked, some (.attention 2 none))],
      let r := { record 7#16 [.waitAttention 2 0] x.1 with wake := x.2 }
      let s := asks (two x.1 x.2 none) ([0x02#8] ++ wordBytes r.tag)
      s.offers ([0x02#8] ++ wordBytes r.tag) [] ∧ r.tag ≠ 0#16 ∧ s.tagsDistinct = true ∧
        s.queue 0 = [] ++ r :: [record 8#16 [.delay 1] .queued] ∧ (r.state = .queued ∨ r.state = .ready ∨ r.state = .parked)) ∧
    let s := asks (two .ready none none) ([0x02#8] ++ wordBytes 8#16)
    s.offers ([0x02#8] ++ wordBytes 8#16) [] ∧
      s.queue 0 = [record 7#16 [.waitAttention 2 0] .ready] ++ record 8#16 [.delay 1] .queued :: []) ∧
    ∀ abort ∈ [none, some CancelCause.byFlush], ∀ acc ∈ [none, some (access .read)],
      let r := { record 7#16 [.waitAttention 2 0] .running with abort := abort }
      let s := asks { two .running none abort with bus.access := acc } ([0x02#8] ++ wordBytes r.tag)
      s.offers ([0x02#8] ++ wordBytes r.tag) [] ∧ r.tag ≠ 0#16 ∧ s.tagsDistinct = true ∧ s.sch.grant = some 0 ∧
        s.queue 0 = r :: [record 8#16 [.delay 1] .queued] ∧ r.state = .running ∧ s.bus.access = acc := by decide +kernel

theorem witness_CancelCheckOrder :
    ∀ x ∈ [([0x02#8, 7#8], ResultCode.badFormat), ([0x02#8, 0#8, 0#8], .badTag), ([0x02#8, 50#8, 0#8], .unknownTag),
        ([0x02#8, 101#8, 0#8], .tooLate), ([0x02#8, 7#8, 0#8], .accepted)],
      (asks nearlyFull x.1).offers x.1 [] ∧ x.1.headD 0#8 = 0x02#8 ∧ repliesWith .cancel (asks nearlyFull x.1) x.2 := by
  decide +kernel

theorem witness_Flush :
    (asks up [0x03#8, 6#8]).disciplined = true ∧ 5 < (6#8 : Byte).toNat ∧ (asks up [0x03#8, 6#8]).offers [0x03#8, 6#8] [] ∧
    (asks up [0x03#8, 5#8]).offers [0x03#8, byteOf (5 : Fin 6).val] [] ∧ (asks up [0x03#8, 5#8]).queue 5 = [] ∧
    ∀ x ∈ [(TxState.ready, (none : Option Wake), (none : Option CancelCause), (none : Option Access)), (.parked, some (.timer 9), none, none),
        (.running, none, none, some (access .read)), (.running, none, none, none), (.running, none, some .byCancel, none)],
      let s := asks { two x.1 x.2.1 x.2.2.1 with bus.access := x.2.2.2 } [0x03#8, byteOf (0 : Fin 6).val]
      s.disciplined = true ∧ s.offers [0x03#8, byteOf (0 : Fin 6).val] [] ∧
        s.queue 0 = { record 7#16 [.waitAttention 2 0] x.1 with wake := x.2.1, abort := x.2.2.1 } ::
          [record 8#16 [.delay 1] .queued] := by decide +kernel

theorem witness_ConfigureAccepted :
    ∀ p ∈ [Profile.default, topProfile, { Profile.default with target := .scratch, addressBits := 9 },
        { Profile.default with csPolarity := .highActive }],
      ∀ old ∈ [Profile.default, { Profile.default with target := .scratch }], ∀ enable ∈ [false, true],
      let m := [0x04#8, byteOf (0 : Fin 6).val] ++ p.bytes ++ [flagByte enable]
      let s := asks (win .enabled old []) m
      s.offers m [] ∧ p.inRange = true ∧ p.legal = true ∧ s.queue 0 = [] ∧ s.bus.ownership = .owned := by decide +kernel

theorem witness_ConfigureCheckOrder :
    ∀ x ∈ [([0x04#8], ResultCode.badFormat), ([0x04#8, 6#8] ++ Profile.default.bytes ++ [2#8], .badWindow),
        ([0x04#8, 0#8] ++ Profile.default.bytes ++ [2#8], .badValue),
        ([0x04#8, 0#8] ++ { Profile.default with readyLimit := 1024 : Profile }.bytes ++ [1#8], .badValue),
        ([0x04#8, 0#8] ++ { Profile.default with target := .scratch, addressBits := 10 : Profile }.bytes ++ [1#8], .badValue),
        ([0x04#8, 0#8] ++ Profile.default.bytes ++ [1#8], .busy), ([0x04#8, 5#8] ++ topProfile.bytes ++ [0#8], .accepted)],
      (asks nearlyFull x.1).offers x.1 [] ∧ x.1.headD 0#8 = 0x04#8 ∧ repliesWith .configureWindow (asks nearlyFull x.1) x.2 := by
  decide +kernel

theorem witness_ClearFault :
    let s := win .faulted Profile.default [record 7#16 [.delay 1] .queued]
    (s.window 0).state = .faulted ∧
    ∀ x ∈ [([0x05#8, 0#8], ResultCode.badFormat), ([0x05#8, 6#8, 2#8], .badWindow), ([0x05#8, 1#8, 2#8], .badValue),
        ([0x05#8, 1#8, 1#8], .notFaulted), ([0x05#8, byteOf (0 : Fin 6).val, 0#8], .accepted),
        ([0x05#8, byteOf (0 : Fin 6).val, 1#8], .accepted)],
      (asks s x.1).offers x.1 [] ∧ x.1.headD 0#8 = 0x05#8 ∧ repliesWith .clearFault (asks s x.1) x.2 := by decide +kernel

theorem witness_LineRequests :
    let s := line 2 (fun x => { x with mode := .rise, waiters := [7#16] }) (line 7 (fun x => { x with outstanding := true }) up)
    (∀ x ∈ [([0x06#8], ResultCode.badFormat), ([0x06#8, 8#8, 6#8, 0#8, 0#8, 0#8], .badLine),
        ([0x06#8, 2#8, 6#8, 0#8, 0#8, 0#8], .badValue), ([0x06#8, 2#8, 0#8, 4#8, 0#8, 0#8], .badValue),
        ([0x06#8, 2#8, 0#8, 0#8, 0#8, 2#8], .badValue), ([0x06#8, 2#8, 5#8, 3#8, 255#8, 1#8], .busy)],
      (asks s x.1).offers x.1 [] ∧ x.1.headD 0#8 = 0x06#8 ∧ repliesWith .setupAttention (asks s x.1) x.2) ∧
    (∀ mode ∈ [LineMode.off, .levelHigh, .levelLow, .rise, .fall, .both],
      let m := [0x06#8, byteOf (7 : Fin 8).val, mode.byte, byteOf (3 : Fin 4).val, 255#8, flagByte true]
      (asks s m).offers m [] ∧ ((asks s m).line 7).waiters = [] ∧ repliesWith .setupAttention (asks s m) .accepted) ∧
    (∀ x ∈ [([0x07#8], ResultCode.badFormat), ([0x07#8, 8#8], .badLine), ([0x07#8, 2#8], .notOutstanding)],
      (asks s x.1).offers x.1 [] ∧ x.1.headD 0#8 = 0x07#8 ∧ repliesWith .acknowledgeAttention (asks s x.1) x.2) ∧
    (asks s [0x07#8, byteOf (7 : Fin 8).val]).offers [0x07#8, byteOf (7 : Fin 8).val] [] ∧ (s.line 7).outstanding = true := by
  decide +kernel

/-- The head of window 0 waits at a boundary: RUNNING, with no access in progress. -/
def waiting : State := running [.write 3#16 5#16]

/-- The record that waits. -/
def waitingHead : Record := record 7#16 [.write 3#16 5#16] .running

theorem witness_HoldAndResume :
    (∀ s ∈ [{ up with sch.hold := true }, busy .write [.write 3#16 5#16], up, waiting], (asks s [0x08#8]).offers [0x08#8] []) ∧
    (busy .write [.write 3#16 5#16]).bus.access = some (access .write) ∧ up.running = none ∧
    waiting.sch.hold = false ∧ waiting.bus.access = none ∧ waiting.running = some (0, waitingHead) ∧ waitingHead.abort = none ∧
    waitingHead.op? = some (.write 3#16 5#16) ∧ ((Op.write 3#16 5#16).access? waitingHead.unitIndex).isSome = true ∧
    (asks { up with sch.hold := true } [0x09#8]).offers [0x09#8] [] ∧ (asks up [0x09#8]).offers [0x09#8] [] ∧
    ({ up with dsp.holdWait := some 3#16 } : State).dsp.holdWait = some 3#16 := by decide +kernel

theorem witness_SetSharing :
    (∀ x ∈ [(2#8, up), (255#8, up), (0#8, { up with breq := true }), (1#8, up), (1#8, { up with breq := true }),
        (1#8, { waiting with breq := true }), (1#8, { busy .write [.write 3#16 5#16] with breq := true }),
        (1#8, { up with bus.ownership := .released })],
      (asks x.2 ([0x0A#8, x.1] ++ wordBytes 5#16)).offers ([0x0A#8, x.1] ++ wordBytes 5#16) []) ∧
    up.bus.ownership = .owned ∧ waiting.bus.ownership = .owned ∧ waiting.bus.access = none ∧
    waiting.running = some (0, waitingHead) ∧ waitingHead.abort = none ∧ waitingHead.op? = some (.write 3#16 5#16) ∧
    ((Op.write 3#16 5#16).access? waitingHead.unitIndex).isSome = true := by decide +kernel

theorem witness_LinkRequests :
    (∀ b ∈ [0#8, 4#8, 5#8, 200#8, 201#8], (asks up [0x0B#8, b]).offers [0x0B#8, b] []) ∧
    ∀ b ∈ [0#8, 1#8, 2#8], (asks up [0x11#8, b]).offers [0x11#8, b] [] := by decide +kernel

theorem witness_Queries :
    (asks nearlyFull [0x0D#8]).offers [0x0D#8] [] ∧ (asks nearlyFull [0x10#8]).offers [0x10#8] [] ∧
    (asks up [0x0E#8, 6#8]).offers [0x0E#8, 6#8] [] ∧ 5 < (6#8 : Byte).toNat ∧
    (asks up [0x0E#8, byteOf (5 : Fin 6).val]).offers [0x0E#8, byteOf (5 : Fin 6).val] [] ∧
    (asks twoLive ([0x0F#8] ++ wordBytes 0#16)).offers ([0x0F#8] ++ wordBytes 0#16) [] ∧
    (asks twoLive ([0x0F#8] ++ wordBytes 9#16)).offers ([0x0F#8] ++ wordBytes 9#16) [] ∧
    (asks twoLive ([0x0F#8] ++ wordBytes 7#16)).offers ([0x0F#8] ++ wordBytes 7#16) [] ∧
    (asks twoLive ([0x0F#8] ++ wordBytes 101#16)).offers ([0x0F#8] ++ wordBytes 101#16) [] ∧
    (∀ r ∈ twoLive.live, r.tag ≠ 9#16) ∧ twoLive.tagsDistinct = true ∧
    twoLive.live = [record 7#16 [.delay 1] .queued, endedRecord] := by decide +kernel

/-! ### Witnesses of the link and the Reporter -/

theorem witness_Acknowledgement : up.lnk.replay = [] ∧
    (∀ a ∈ [14#4, 15#4, 0#4, 1#4],
      let o := frame 14#4 .ended
      let more := [frame 15#4 .ended]
      let d := (a - o.seq).toNat
      ({ up with lnk.replay := o :: more } : State).lnk.replay = o :: more ∧
        (if a = 15#4 ∨ a = 0#4 then 1 ≤ d ∧ d ≤ more.length + 1 else d = 0 ∨ more.length + 1 < d)) ∧
    ∀ c ∈ [0x02#8, 0x03#8], ∀ a ∈ [0#4, 1#4],
      let sa := seqAck 0#4 a
      let g := frameBody c sa [] ++ crcBytes (frameBody c sa [])
      let s := { gathers up c sa [] with lnk.replay := [frame 0#4 .ended] }
      s.lnk.gathered = some g ∧ frameValid g = true ∧ frameControl g = c ∧ s.lnk.state = .up ∧
        (((State.acknowledge { s with lnk.gathered := none } (frameAck g)).lnk.replay.head?.map ReplayFrame.seq = some (frameAck g)) ↔
          a = 0#4) :=
  ⟨rfl, by decide +kernel, by decide +kernel⟩

theorem witness_DataFrame :
    ∀ x ∈ [(0x00#8, 0), (0x00#8, 7), (0x00#8, 8), (0x10#8, 0), (0xB0#8, 0), (0xC0#8, 0), (0xF0#8, 0)],
      let g := frameBody 0x01#8 x.1 [0x0D#8] ++ crcBytes (frameBody 0x01#8 x.1 [0x0D#8])
      let s := { gathers up 0x01#8 x.1 [0x0D#8] with lnk.intake := List.replicate x.2 [0x0D#8] }
      s.lnk.gathered = some g ∧ frameValid g = true ∧ frameControl g = 0x01#8 ∧ s.lnk.state = .up ∧
        (frameSeq g - s.lnk.rxExpected).toNat = (x.1 >>> 4).toNat := by decide +kernel

theorem witness_ResyncTaken :
    ∀ st ∈ [LinkState.start, .up, .stalled],
      let g := frameBody 0x04#8 0#8 [] ++ crcBytes (frameBody 0x04#8 0#8 [])
      let s := { gathers up 0x04#8 0#8 [] with lnk.state := st }
      s.lnk.gathered = some g ∧ frameValid g = true ∧ frameControl g = 0x04#8 := by decide +kernel

theorem witness_DiscardedFrames :
    (∀ c ∈ [0x00#8, 0x01#8, 0x02#8, 0x03#8, 0x05#8, 0x06#8, 0xFF#8],
      let g := frameBody c 0#8 [] ++ crcBytes (frameBody c 0#8 [])
      let s := { gathers up c 0#8 [] with lnk.state := .stalled }
      s.lnk.gathered = some g ∧ frameValid g = true ∧ s.lnk.state ≠ .up ∧ frameControl g = c) ∧
    (let g := [2#8, 2#8, 0#8, 0#8, 0#8]
     ({ up with lnk.gathered := some g } : State).lnk.gathered = some g ∧
        crcBytes (g.take (g.length - 2)) ≠ g.drop (g.length - 2)) ∧
    let s := { up with lnk.receiver := .inside [5#8] 10 }
    s.quietTo 80010 = true ∧ s.lnk.receiver = .inside [5#8] 10 := by decide +kernel

theorem witness_ByteReceived :
    (∀ r ∈ [Receiver.hunting, .inside [] 0, .inside [2#8, 2#8] 0, .inside [2#8, 2#8, 0#8, 1#8] 0],
      ({ up with lnk.receiver := r } : State).quiet = true) ∧
    ([2#8] : List Byte).length + 2 ≠ (2#8 : Byte).toNat + 3 ∧ ([2#8, 0#8, 1#8] : List Byte).length + 2 = (2#8 : Byte).toNat + 3 := by
  decide +kernel

theorem witness_LinkTimers :
    (let s := { up with lnk.ackOwed := .since 9 }
     s.quietTo 40009 = true ∧ s.lnk.ackOwed = .since 9) ∧
    (∀ retry ∈ [6, 7], let s := { up with lnk.timer := some 5, lnk.retry := retry, lnk.replay := [frame 0#4 .ended] }
      s.quietTo 5 = true ∧ s.lnk.state = .up ∧ s.lnk.timer = some 5 ∧ s.lnk.replay = frame 0#4 .ended :: []) ∧
    let s := { up with lnk.state := .stalled, lnk.announce := some 9 }
    s.quietTo 9 = true ∧ s.lnk.state ≠ .up ∧ s.lnk.announce = some 9 := by decide +kernel

theorem witness_FrameTransmitEnd :
    ∀ k ∈ [TxKind.resyncReply, .resync, .nak, .ack, .data none, .data (some 0#16)],
      let s := { sends k up with lnk.replay := [frame 0#4 .begun] }
      s.quietTo (frameTicks s.lnk.baud [0#8]) = true ∧ s.lnk.tx = some { kind := k, bytes := [0#8], begun := 0 } := by decide +kernel

theorem witness_TransmitPrecedence :
    (sends .ack up).lnk.tx ≠ none ∧ up.lnk.tx = none ∧
    ({ up with lnk.resyncReplyDue := true } : State).lnk.resyncReplyDue = true ∧ up.lnk.resyncReplyDue = false ∧
    ({ up with lnk.state := .start, lnk.resyncDue := true } : State).lnk.state ≠ .up ∧
    ({ up with lnk.nak := .due } : State).lnk.nak = .due ∧ ({ up with lnk.nakOutOfOrder := true } : State).lnk.nakOutOfOrder = true ∧
    up.lnk.nak ≠ .due ∧ up.lnk.nakOutOfOrder = false ∧ up.lnk.state = .up ∧
    (let s := { up with lnk.replay := [frame 0#4 .ended, frame 1#4 .ended], lnk.resendPoint := some 1#4 }
     s.lnk.replay = [frame 0#4 .ended] ++ frame 1#4 .ended :: [] ∧ s.lnk.resendPoint = some (frame 1#4 .ended).seq ∧
        ∀ y ∈ [frame 0#4 .ended], y.seq ≠ (frame 1#4 .ended).seq) ∧
    (let s := { up with lnk.replay := [frame 0#4 .ended, frame 1#4 .notBegun] }
     (∀ y ∈ s.lnk.replay, s.lnk.resendPoint ≠ some y.seq) ∧
        s.lnk.replay = [frame 0#4 .ended] ++ frame 1#4 .notBegun :: [] ∧ (frame 1#4 .notBegun).sent = .notBegun ∧
        ∀ y ∈ [frame 0#4 .ended], y.sent ≠ .notBegun) ∧
    let s := { up with lnk.replay := [frame 0#4 .ended], lnk.ackOwed := .requested }
    (∀ y ∈ s.lnk.replay, s.lnk.resendPoint ≠ some y.seq) ∧ ∀ y ∈ s.lnk.replay, y.sent ≠ .notBegun := by decide +kernel

theorem witness_ReportTake :
    (let s := { atBounds with lnk.replay := [frame 0#4 .ended, frame 1#4 .ended, frame 2#4 .ended] }
     s.lnk.state = .up ∧ s.rpt.queue = (frame 0#4 .ended).report :: List.replicate 31 (frame 0#4 .ended).report ∧
        s.lnk.replay.length < 4 ∧ s.due = some .report) ∧
    atBounds.due = none ∧ 4 ≤ atBounds.lnk.replay.length ∧ up.due = none ∧ up.rpt.queue = [] := by decide +kernel

theorem witness_ReportAdmission :
    (32 ≤ atBounds.rpt.queue.length ∧ atBounds.due = none ∧ up.due = none ∧ stamped.due = some .admission ∧
      nearlyFull.due = some .admission) ∧ stamped.stampsRanked = true ∧ stamped.anyEligible = true ∧ stamped.rpt.queue.length < 32 ∧
    stamped.dsp.slot = none ∧ stamped.rpt.backlog = [] ∧ stamped.rpt.overrun = none ∧
    ((stamped.line 2).eligible = true ∧ ∀ k : Fin 8, k ≠ 2 → (stamped.line k).eligible = true →
      (stamped.line k).priority < (stamped.line 2).priority ∨ ((stamped.line k).priority = (stamped.line 2).priority ∧
        (stamped.line 2).stamp.getD 0 < (stamped.line k).stamp.getD 0)) ∧
    (let s := { atBounds with rpt.queue := List.replicate 31 (frame 0#4 .ended).report }
     s.due = some .admission ∧ s.rpt.queue.length < 32 ∧ s.anyEligible = false ∧
        s.dsp.slot = some { kind := 0x08#8, count := 1#16, code := .held, body := [0#8] }) ∧
    (nearlyFull.rpt.starvation ≠ 4 ∧ nearlyFull.dsp.slot = none ∧ nearlyFull.rpt.backlog ≠ []) ∧
    let s := { up with rpt.overrun := some { limit := 5, window := none, count := 1 } }
    s.due = some .admission ∧ s.rpt.starvation ≠ 4 ∧ s.dsp.slot = none ∧ s.rpt.backlog = [] ∧
      s.rpt.overrun = some { limit := 5, window := none, count := 1 } := by decide +kernel

/-! ### Witnesses of the Scheduler and the bus -/

/-- Window 4's READY and window 2's QUEUED transaction are candidates. -/
def candidates : State :=
  let a : Window := { state := .enabled, profile := Profile.default, queue := [record 7#16 [.delay 1] .queued] }
  let b : Window := { a with queue := [{ record 8#16 [.write 3#16 5#16] .ready with window := 4 }] }
  (up.setWindow 2 a).setWindow 4 b

theorem witness_Grant :
    candidates.quiet = true ∧ candidates.sch.grant = none ∧ candidates.sch.hold = false ∧ candidates.bus.ownership = .owned ∧
    candidates.head 4 = some { record 8#16 [.write 3#16 5#16] .ready with window := 4 } ∧ candidates.group 4 = some 3 ∧
    candidates.group 2 = some 4 ∧ candidates.head 0 = none ∧
    (∀ v : Fin 6, ∀ h, candidates.group v = some h → 3 ≤ h) ∧
    (∀ v : Fin 6, candidates.group v = some 3 → ((4 : Fin 6) - candidates.sch.pointer - 1).val ≤ (v - candidates.sch.pointer - 1).val) ∧
    (∀ s ∈ [waiting, { candidates with sch.hold := true }, { candidates with bus.ownership := .released }, up], s.quiet = true) ∧
    waiting.sch.grant ≠ none ∧ (∀ w : Fin 6, up.group w = none) ∧
    (∀ x ∈ [none, some 200], let s := { candidates with sch.delayEnds := Vector.replicate 6 x, bus.recovery := Vector.replicate 6 (some 10) }
      s.quietTo 202 = true ∧ s.sch.delayEnds[(4 : Fin 6)] = x ∧ s.bus.recovery[(4 : Fin 6)] = some 10 ∧
        (s.window 4).profile.target = .pins ∧ s.group 4 = some 3) := by
  refine ⟨by decide +kernel, by decide +kernel, by decide +kernel, by decide +kernel, by decide +kernel, by decide +kernel,
    by decide +kernel, by decide +kernel, ?_, by decide +kernel, by decide +kernel, by decide +kernel, by decide +kernel,
    by decide +kernel⟩
  have all : ∀ v : Fin 6, ∀ h ∈ candidates.group v, 3 ≤ h := by decide +kernel
  exact fun v h e => all v h e

theorem witness_BoundaryOrder :
    (∀ op ∈ [Op.poll 1#16 1#16 1#16 5 9, .delay 5, .write 3#16 5#16],
      (running [op]).head 0 = some (record 7#16 [op] .running) ∧ (record 7#16 [op] .running).op? = some op) ∧
    ((Op.write 3#16 5#16).access? 0).isSome = true ∧
    ({ record 7#16 [.delay 1] .running with opIndex := 1 }).ops.length ≤ 1 ∧
    (two .running none (some .byCancel)).head 0 =
      some { record 7#16 [.waitAttention 2 0] .running with abort := some .byCancel } ∧
    (let s := { waiting with sch.slice := 16, win := (candidates.setQueue 0 [waitingHead]).win }
     16 ≤ s.sch.slice ∧ s.anyCandidate = true ∧ s.sch.hold = false ∧ s.requested = false) ∧
    ({ waiting with sch.slice := 16 } : State).anyCandidate = false ∧
    ({ waiting with breq := true, bus.shareEnable := true } : State).requested = true ∧ waiting.recovering 0 = false := by
  decide +kernel

theorem witness_ReleaseAndBegin :
    (let s := { queued [record 7#16 [.write 3#16 5#16] .ready] with breq := true, bus.shareEnable := true }
     s.bus.shareEnable = true ∧ s.breq = true ∧ s.bus.ownership = .owned ∧ s.bus.access = none) ∧
    waitingHead.op? = some (.write 3#16 5#16) ∧ (Op.write 3#16 5#16).access? waitingHead.unitIndex = some (.write, 3#16, 5#16) ∧
    (let r := { record 7#16 [.read 3#16 4 true] .running with unitIndex := 1 }
     r.op? = some (.read 3#16 4 true) ∧ (Op.read 3#16 4 true).access? r.unitIndex = some (.read, 4#16, 0#16)) := by decide +kernel

theorem witness_WaitAttentionBegins :
    let r := record 7#16 [.waitAttention 2 0] .running
    r.state = .running ∧ r.abort = none ∧ r.op? = some (.waitAttention 2 0) ∧
    ∀ x ∈ [(LineMode.off, 0), (.rise, 0), (.rise, 1), (.rise, 2)],
      let s := line 2 (fun y => { y with mode := x.1, count := x.2, stamp := if x.2 = 0 then none else some 1 })
        (running [.waitAttention 2 0])
      s.head 0 = some r ∧ s.tagsDistinct = true ∧ (s.line 2).mode = x.1 ∧ (s.line 2).count = x.2 ∧ (s.line 2).waiters = [] ∧
      let after := { record 7#16 [.delay 1, .waitAttention 2 0] .running with opIndex := 1 }
      let t := s.setQueue 0 [after]
      after.abort = none ∧ after.op? = some (.waitAttention 2 0) ∧ t.head 0 = some after ∧ t.tagsDistinct = true ∧
        (t.line 2) = (s.line 2) := by
  decide +kernel

theorem witness_ParkTimers : up.quiet = true ∧ up.parkTimer 0 = none ∧
    ∀ x ∈ [([Op.poll 1#16 1#16 1#16 5 9], Wake.timer 200), ([.delay 5], .timer 200), ([.delay 5, .delay 6], .timer 200),
        ([.waitAttention 2 1], .attention 2 (some 200))],
      let r := { record 7#16 x.1 .parked with wake := some x.2 }
      (parked x.1 x.2).quietTo 200 = true ∧ (parked x.1 x.2).head 0 = some r ∧ r.state = .parked ∧ r.op? = x.1.head? ∧
        r.wake = some x.2 := by decide +kernel

theorem witness_ReadyAndTimeout : 1 ≤ waitsReady.strobe ∧ Profile.default.readyMode = .noWait ∧ waitsReady.readyMode = .wait ∧
    strobeTicks waitsReady [true, true, true, true] = some 4 ∧
    strobeTicks waitsReady [false, false, false, false, false, false, true] = some 7 ∧
    ∀ op ∈ [Op.write 3#16 5#16, .writeBlock 3#16 true [5#16, 6#16], .read 3#16 2 true, .modify 3#16 1#16 2#16 true,
        .poll 3#16 1#16 1#16 5 9, .scan 3#16 4 true 1#16 1#16 .eq true], ∀ kind ∈ [AccessKind.read, .write],
      let s := { (win .enabled waitsReady [record 7#16 [op] .running]) with sch.grant := some 0, bus.access := some (access kind) }
      s.quietTo 9 = true ∧ s.bus.access = some (access kind) ∧ s.head (access kind).window = some (record 7#16 [op] .running) ∧
        (record 7#16 [op] .running).op? = some op ∧ (s.window 0).profile.target = .pins ∧
        (s.window 0).profile.readyMode = .wait := by decide +kernel

theorem witness_AccessCompletion :
    ∀ kind ∈ [AccessKind.read, .write], ∀ op ∈ [Op.write 3#16 5#16, .read 3#16 2 true, .modify 3#16 1#16 2#16 true],
      let s := busy kind [op]
      s.quietTo 6 = true ∧ s.bus.access = some (access kind) ∧ s.head (access kind).window = some (record 7#16 [op] .running) ∧
        (record 7#16 [op] .running).op? = some op ∧ (s.window 0).profile.target = .pins ∧
        strobeTicks (s.window 0).profile [] = some 4 := by decide +kernel

/-- A scratch access at an address. -/
def scratchAt (addr : Word) (kind : AccessKind) (op : Op) : State :=
  { busyScratch kind [op] with bus.access := some { access kind with addr := addr } }

/-- The hypotheses of a scratch access hold of the state. -/
def scratchMeets (addr : Word) (kind : AccessKind) (op : Op) : Bool :=
  let s := scratchAt addr kind op
  s.quietTo 2 && decide (s.bus.access = some { access kind with addr := addr }) && decide (s.head 0 = some (record 7#16 [op] .running))
    && decide ((record 7#16 [op] .running).op? = some op) && decide ((s.window 0).profile.target = .scratch)

theorem witness_ScratchAccess :
    scratchMeets 0#16 .write (.write 3#16 5#16) = true ∧ scratchMeets 511#16 .read (.read 3#16 2 true) = true ∧
    scratchMeets 511#16 .read (.modify 3#16 1#16 2#16 true) = true ∧ scratchMeets 511#16 .write (.modify 3#16 1#16 2#16 true) = true ∧
    scratchMeets 512#16 .write (.write 3#16 5#16) = true := by decide +kernel

theorem witness_RecoveryEnd : up.running = none ∧ waiting.running = some (0, waitingHead) ∧ waiting.sch.hold = false ∧
    waiting.bus.access = none ∧ waiting.bus.ownership = .owned ∧
    ∀ s ∈ [up, busy .write [.write 3#16 5#16], { waiting with sch.hold := true }, { waiting with bus.ownership := .released },
        waiting, { (busyScratch .write [.write 3#16 5#16]) with bus.access := none }], ∀ x ∈ [none, some 100],
      let t := { s with bus.recovery := Vector.replicate 6 x }
      t.quietTo 102 = true ∧ t.quiet = true ∧ t.bus.recovery[(0 : Fin 6)] = x ∧ t.running = s.running := by
  decide +kernel

theorem witness_BusSharing :
    let x : Release := { at_ := 0, start := none, displaced := none, overrun := false }
    (∀ s ∈ [up, { up with bus.shareEnable := true }, { waiting with bus.shareEnable := true },
        { up with bus.ownership := .released, bus.release := some x },
        { up with breq := true, bus.ownership := .released, bus.release := some { x with start := some 2 }, bus.shareLimit := 1 },
        { up with breq := true, bus.ownership := .released, bus.release := some { x with start := some 2, overrun := true } }],
      s.quiet = true ∧ s.quietTo 42 = true) ∧
    (let s := { up with bus.ownership := .released, bus.release := some { x with start := some 2 } }
     s.bus.release = some { x with start := some 2 } ∧ s.breq = false ∧ s.due = some .release) ∧
    up.bus.release = none ∧ waiting.bus.access = none ∧ waiting.bus.ownership = .owned ∧ waiting.running = some (0, waitingHead) ∧
    waitingHead.abort = none ∧ waitingHead.op? = some (.write 3#16 5#16) ∧
    ((Op.write 3#16 5#16).access? waitingHead.unitIndex).isSome = true := by decide +kernel

theorem witness_PinLevels :
    (∀ s ∈ [up, busy .write [.write 3#16 5#16], busyScratch .read [.read 3#16 1 true]], s.bus.resetPins = none ∧ s.bus.release = none) ∧
    (busyScratch .read [.read 3#16 1 true]).bus.access = some (access .read) ∧
    ((busyScratch .read [.read 3#16 1 true]).window 0).profile.target = .scratch ∧
    ((busy .write [.write 3#16 5#16]).window 0).profile.target = .pins ∧
    (∀ e ∈ [0, 1, 5], ({ (busy .write [.write 3#16 5#16]) with now := e } : State).now = (access .write).start + e) ∧
    ((access .read).kind = .read ∧ 1 + 4 ≤ 5 ∧ strobeTicks Profile.default [] = some 4) ∧
    (∀ n ∈ [0, 1], let s := { up with now := n, bus.resetPins := some (0, floatingPins false) }
      s.bus.resetPins = some (0, floatingPins false) ∧ (if n = 0 then s.now ≤ 0 else 0 < s.now)) ∧
    (let s := { up with bus.ownership := .released
                        bus.release := some { at_ := 0, start := none, displaced := none, overrun := false } }
     (∀ x ∈ s.bus.resetPins, x.1 < s.now) ∧ (∀ x ∈ s.bus.release, s.now ≤ x.at_) ∧ s.bus.release ≠ none ∧ s.bus.access = none) ∧
    (let s := { up with now := 1, bus.ownership := .released
                        bus.release := some { at_ := 0, start := none, displaced := none, overrun := false } }
     s.bus.resetPins = none ∧ s.bus.release = some { at_ := 0, start := none, displaced := none, overrun := false } ∧ 0 < s.now) := by
  decide +kernel

/-! ### Witnesses of the attention lines -/

theorem witness_AttentionEvents : up.quiet = true ∧ (up.line 1).pendingChange = none ∧ (up.line 1).level = false ∧ (up.line 1).filter = 0 ∧
    ∀ mode ∈ [LineMode.off, .levelHigh, .levelLow, .rise, .fall, .both], ∀ count ∈ [0, 1, 255], ∀ filter ∈ [0, 2],
      let s := line 1 (fun x => { x with mode := mode, filter := filter, count := count, pendingChange := some (true, 10) }) up
      (if filter = 0 then s.holding = false ∧ s.due = some (.change 1) else s.quietTo 90 = true) ∧
        (s.line 1).pendingChange = some (true, 10) ∧ (s.line 1).level = false := by decide +kernel

theorem witness_Routing :
    (∀ ops ∈ [[Op.waitAttention 2 1], [.waitAttention 2 1, .delay 5]], ∀ count ∈ [1, 2, 255],
      let r := { record 7#16 ops .parked with wake := some (.attention 2 (some 40000)) }
      let s := line 2 (fun x => { x with mode := .rise, count := count, stamp := some 1, waiters := [7#16] })
        (parked ops (.attention 2 (some 40000)))
      s.tagsDistinct = true ∧ (s.line 2).waiters = r.tag :: [] ∧ (s.line 2).count = count ∧ s.head 0 = some r ∧ r.state = .parked) ∧
    ∀ x ∈ [(LineMode.rise, true), (.fall, false), (.both, true), (.both, false)], ∀ filter ∈ [0, 2],
      let s := line 2 (fun y => { y with mode := x.1, filter := filter, level := !x.2, pendingChange := some (x.2, 10) }) waitsTwice
      let r := { record 7#16 [.waitAttention 2 1, .delay 5] .parked with wake := some (.attention 2 (some 40000)) }
      s.tagsDistinct = true ∧ (if filter = 0 then s.holding = false ∧ s.due = some (.change 2) else s.quietTo 90 = true) ∧
        (s.line 2).count = 0 ∧ (s.line 2).stamp = none ∧ (s.line 2).waiters = r.tag :: [8#16] ∧ s.head 0 = some r ∧
        r.state = .parked ∧ s.stamps = 0 ∧ ∀ k, (s.line k).stamp = none := by decide +kernel

end Sys2Proof.Tests
end

section
namespace Sys2Proof.Records

open Sys2Proof Sys2Proof.Machine

/-! PROOF. What every step keeps of pool, tags, queue discipline, epochs and sizes (O10, O11, O12, O14, O16).

A step is a chain of advances (`step_advances`), and an advance is one of four things (`Advance`): the records of the queues move on
(`Moves`), a SUBMIT is accepted, an empty window is configured, or a reset. That each operation of the part only moves records on is one
lemma for each, named after it (`settleWaiting_moves`, `takeUnit_moves`, …), stated under a premise `p` that gives the discipline, so that
what needs no discipline (pool, epochs) is had without it. Each invariant is then kept by four cases. -/

/-! ## The invariants, part by part -/

/-- A bus-side record but for its abort request: no outcome, a wake condition exactly while PARKED, not COMPLETING (R6, R8). -/
def RecordSound (r : Record) : Prop :=
  r.outcome = none ∧ (r.wake.isSome = true ↔ r.state = .parked) ∧ r.state ≠ .completing

/-- The discipline of one window's queue, where `granted` says that the grant names the window (R14, R19, R49). -/
structure WindowSound (x : Window) (granted : Prop) : Prop where
  records : ∀ r ∈ x.queue, RecordSound r
  tail : ∀ r ∈ x.queue.tail, r.state = .queued
  running : granted ↔ ∃ r, x.queue.head? = some r ∧ r.state = .running
  disabled : x.state = .disabled → x.queue = []
  faulted : x.state = .faulted → ∀ r ∈ x.queue, r.state = .queued

/-- The discipline of queues, grant, access and backlog but for the abort requests: the part of `State.disciplined` that holds on
whether or not tags are distinct. -/
structure Sound (s : State) : Prop where
  window : ∀ w, WindowSound (s.window w) (s.sch.grant = some w)
  access : ∀ a, s.bus.access = some a → s.sch.grant = some a.window
  backlog : ∀ r ∈ s.rpt.backlog, r.state = .completing ∧ r.outcome.isSome = true

/-- Only a RUNNING record carries an abort request (R5). -/
def AbortsRun (s : State) : Prop := ∀ w, ∀ r ∈ s.queue w, r.abort.isSome = true → r.state = .running

/-- The result bytes that a record has and can still come to have. -/
def need (width : Width) (writing : Bool) (r : Record) : Nat := r.data.length + r.room width writing

/-- The result data of a window's records stay within 192 bytes to their end (R7, R27). -/
structure WindowFits (x : Window) (writing : Bool) : Prop where
  head : ∀ r, x.queue.head? = some r → need x.profile.width writing r ≤ 192
  tail : ∀ r ∈ x.queue.tail, need x.profile.width false r ≤ 192

/-- The reply formed and the reports admitted keep within their largest sizes (Table 11–6). -/
structure MessagesFit (s : State) : Prop where
  reply : ∀ r, s.dsp.slot = some r → r.body.length ≤ 88
  queue : ∀ r ∈ s.rpt.queue, r.bytes.length ≤ 207
  replay : ∀ r ∈ s.lnk.replay.map ReplayFrame.report, r.bytes.length ≤ 207

/-- What `State.reportsBounded` says. -/
structure Fits (s : State) : Prop where
  window : ∀ w, WindowFits (s.window w) (s.writing w)
  backlog : ∀ r ∈ s.rpt.backlog, r.data.length ≤ 192
  messages : MessagesFit s

theorem mem_allWindows (w : Fin 6) : w ∈ allWindows := by revert w; decide

theorem head_eq (s : State) (w : Fin 6) : s.head w = (s.window w).queue.head? := rfl

theorem queue_eq (s : State) (w : Fin 6) : s.queue w = (s.window w).queue := rfl

theorem queueOk_iff (s : State) (w : Fin 6) : s.queueOk w = true ↔ WindowSound (s.window w) (s.sch.grant = some w) ∧
    ∀ r ∈ s.queue w, r.abort.isSome = true → r.state = .running := by
  simp only [State.queueOk, Record.busSideOk, Bool.and_eq_true, List.all_eq_true, decide_eq_true_eq]
  constructor
  · rintro ⟨⟨⟨⟨hr, ht⟩, hg⟩, hd⟩, hf⟩
    exact ⟨⟨fun r h => ⟨(hr r h).1.1.1, (hr r h).1.1.2, (hr r h).2⟩, ht, hg, hd, hf⟩,
      fun r h => (hr r h).1.2⟩
  · rintro ⟨⟨hr, ht, hg, hd, hf⟩, ha⟩
    exact ⟨⟨⟨⟨fun r h => ⟨⟨⟨(hr r h).1, (hr r h).2.1⟩, ha r h⟩, (hr r h).2.2⟩, ht⟩, hg⟩, hd⟩, hf⟩

theorem disciplined_iff (s : State) : s.disciplined = true ↔ Sound s ∧ AbortsRun s := by
  simp only [State.disciplined, Bool.and_eq_true, List.all_eq_true, queueOk_iff, decide_eq_true_eq]
  constructor
  · rintro ⟨⟨hq, ha⟩, hb⟩
    exact ⟨⟨fun w => (hq w (mem_allWindows w)).1, fun a e => by simpa [e] using ha, hb⟩, fun w => (hq w (mem_allWindows w)).2⟩
  · rintro ⟨⟨hw, ha, hb⟩, hr⟩
    refine ⟨⟨fun w _ => ⟨hw w, hr w⟩, ?_⟩, hb⟩
    cases e : s.bus.access with
    | none => rfl
    | some a => simp [ha a e]

theorem reportsBounded_iff (s : State) : s.reportsBounded = true ↔ Fits s := by
  simp only [State.reportsBounded, Bool.and_eq_true, List.all_eq_true, Option.all_eq_true, decide_eq_true_eq]
  constructor
  · rintro ⟨⟨⟨⟨hw, hb⟩, hd⟩, hq⟩, hl⟩
    refine ⟨fun w => ⟨(hw w (mem_allWindows w)).1, (hw w (mem_allWindows w)).2⟩, hb, hd, hq, ?_⟩
    intro r hr
    obtain ⟨f, hf, rfl⟩ := List.mem_map.mp hr
    exact hl f hf
  · rintro ⟨hw, hb, hd, hq, hl⟩
    exact ⟨⟨⟨⟨fun w _ => ⟨(hw w).head, (hw w).tail⟩, hb⟩, hd⟩, hq⟩, fun f hf => hl _ (List.mem_map_of_mem hf)⟩

/-! ## What the part does to its records -/

/-- The records of `t` are those of `s`, some of them further on and some gone from their queues: what every operation but an accepted
SUBMIT, an accepted CONFIGURE WINDOW and a reset does. The last three fields say what is kept where `p` holds, which stands for what is
known of `s`. -/
structure Goes (p : Prop) (s t : State) : Prop where
  epoch : t.epoch = s.epoch
  profile : ∀ w, (t.window w).profile = (s.window w).profile
  order : ∀ w, ((t.queue w).map Record.epoch).Sublist ((s.queue w).map Record.epoch)
  count : t.live.length ≤ s.live.length
  sound : p → Sound t
  tags : p → (t.live.map Record.tag).Subperm (s.live.map Record.tag)
  aborts : p → s.tagsDistinct = true → AbortsRun s → AbortsRun t

/-- The records have moved on, and result data, replies and reports stay within their sizes. -/
structure Moves (p : Prop) (s t : State) : Prop extends Goes p s t where
  fits : p → Fits s → Fits t

theorem tagsDistinct_iff (s : State) : s.tagsDistinct = true ↔ (s.live.map Record.tag).Nodup := by
  simp [State.tagsDistinct]

theorem nodup_of_subperm {α : Type} {a b : List α} (h : a.Subperm b) (hb : b.Nodup) : a.Nodup := by
  obtain ⟨c, hp, hs⟩ := h
  exact hp.nodup_iff.mp (hb.sublist hs)

theorem Goes.tagsDistinct {p : Prop} {s t : State} (h : Goes p s t) (hp : p) (hs : s.tagsDistinct = true) : t.tagsDistinct = true := by
  rw [tagsDistinct_iff] at hs ⊢
  exact nodup_of_subperm (h.tags hp) hs

theorem Goes.trans {p q : Prop} {s t u : State} (h : Goes p s t) (hq : p → q) (k : Goes q t u) : Goes p s u where
  epoch := k.epoch.trans h.epoch
  profile w := (k.profile w).trans (h.profile w)
  order w := (k.order w).trans (h.order w)
  count := k.count.trans h.count
  sound hp := k.sound (hq hp)
  tags hp := (k.tags (hq hp)).trans (h.tags hp)
  aborts hp hd ha := k.aborts (hq hp) (h.tagsDistinct hp hd) (h.aborts hp hd ha)

theorem Moves.trans {p q : Prop} {s t u : State} (h : Moves p s t) (hq : p → q) (k : Moves q t u) : Moves p s u where
  toGoes := h.toGoes.trans hq k.toGoes
  fits hp hf := k.fits (hq hp) (h.fits hp hf)

end Sys2Proof.Records
end

section
namespace Sys2Proof.Records

open Sys2Proof Sys2Proof.Machine

/-! ## Live records -/

/-- The records that stand in other windows' queues. -/
def elsewhere (s : State) (w : Fin 6) : List Record := (allWindows.erase w).flatMap s.queue

theorem live_perm (s : State) (w : Fin 6) : s.live.Perm (s.queue w ++ s.rpt.backlog ++ elsewhere s w) := by
  have h : s.busSide.Perm (s.queue w ++ elsewhere s w) := (List.perm_cons_erase (mem_allWindows w)).flatMap_right s.queue
  calc s.live
    _ = s.busSide ++ s.rpt.backlog := rfl
    List.Perm _ ((s.queue w ++ elsewhere s w) ++ s.rpt.backlog) := h.append_right _
    List.Perm _ (s.queue w ++ (s.rpt.backlog ++ elsewhere s w)) := by
      rw [List.append_assoc]; exact List.perm_append_comm.append_left _
    _ = s.queue w ++ s.rpt.backlog ++ elsewhere s w := (List.append_assoc ..).symm

theorem elsewhere_congr {s t : State} {w : Fin 6} (h : ∀ v, v ≠ w → t.window v = s.window v) : elsewhere t w = elsewhere s w := by
  unfold elsewhere
  have hn : allWindows.Nodup := by decide
  refine List.flatMap_congr fun v hv => ?_
  rw [queue_eq, queue_eq, h v (hn.mem_erase_iff.mp hv).1]

theorem tags_queue_nodup {s : State} (h : s.tagsDistinct = true) (w : Fin 6) : ((s.queue w).map Record.tag).Nodup := by
  rw [tagsDistinct_iff, ((live_perm s w).map Record.tag).nodup_iff] at h
  simp only [List.map_append, List.append_assoc] at h
  exact h.of_append_left

/-! ## One window's records move -/

/-- The bus access in progress stays, or was one of window `w`. -/
def AccessOwn (s t : State) (w : Fin 6) : Prop := t.bus.access = s.bus.access ∨ ∀ a, s.bus.access = some a → a.window = w

/-- The queue of window `w` has moved on from `s` to `t`, and the records `gone` have joined the backlog. -/
structure Step (s t : State) (w : Fin 6) (gone : List Record) : Prop where
  others : ∀ v, v ≠ w → t.window v = s.window v
  profile : (t.window w).profile = (s.window w).profile
  epoch : t.epoch = s.epoch
  backlog : t.rpt.backlog = s.rpt.backlog ++ gone
  order : ((t.queue w).map Record.epoch).Sublist ((s.queue w).map Record.epoch)
  count : (t.queue w).length + gone.length ≤ (s.queue w).length

/-- What such a move keeps of a state whose discipline holds. -/
structure SoundStep (s t : State) (w : Fin 6) (gone : List Record) : Prop where
  tags : ((t.queue w ++ gone).map Record.tag).Subperm ((s.queue w).map Record.tag)
  window : WindowSound (t.window w) (t.sch.grant = some w)
  grant : ∀ v, v ≠ w → (t.sch.grant = some v ↔ s.sch.grant = some v)
  access : ∀ a, t.bus.access = some a → t.sch.grant = some a.window
  ended : ∀ r ∈ gone, r.state = .completing ∧ r.outcome.isSome = true
  aborts : s.tagsDistinct = true → AbortsRun s → ∀ r ∈ t.queue w, r.abort.isSome = true → r.state = .running

/-- Such a move leaves the sizes of result data as they must be. -/
structure FitStep (s t : State) (w : Fin 6) (gone : List Record) : Prop where
  own : AccessOwn s t w
  window : WindowFits (t.window w) (t.writing w)
  ended : ∀ r ∈ gone, r.data.length ≤ 192

theorem room_true_le (width : Width) (r : Record) : r.room width true ≤ r.room width false := by
  unfold Record.room
  split
  · exact Nat.le_refl _
  · rename_i op _ _
    refine Nat.add_le_add_right ?_ _
    cases op <;> simp [Op.room]

theorem WindowFits.of_writing {x : Window} {b c : Bool} (h : WindowFits x b) (hbc : b = true → c = true) : WindowFits x c where
  head r hr := by
    have hb := h.head r hr
    have hle := room_true_le x.profile.width r
    unfold need at *
    cases b
    · cases c
      · exact hb
      · omega
    · rwa [hbc rfl]
  tail := h.tail

theorem writing_of_own {s t : State} {w v : Fin 6} (h : AccessOwn s t w) (hv : v ≠ w) (hs : s.writing v = true) : t.writing v = true := by
  rcases h with h | h
  · rw [← hs]; unfold State.writing; rw [h]
  · obtain ⟨a, ha, hw⟩ := (Option.any_eq_true _ _).mp hs
    simp only [decide_eq_true_eq] at hw
    exact absurd (hw.1.symm.trans (h a ha)) hv

section
variable {s t : State} {w : Fin 6} {gone : List Record}

theorem Step.length_live_le (h : Step s t w gone) : t.live.length ≤ s.live.length := by
  rw [(live_perm s w).length_eq, (live_perm t w).length_eq, elsewhere_congr h.others, h.backlog]
  have := h.count
  simp only [List.length_append]
  omega

theorem Step.sound (h : Step s t w gone) (hs : Sound s) (k : SoundStep s t w gone) : Sound t where
  window v := by
    by_cases e : v = w
    · rw [e]; exact k.window
    · rw [h.others v e, propext (k.grant v e)]; exact hs.window v
  access := k.access
  backlog r hr := by
    rw [h.backlog, List.mem_append] at hr
    exact hr.elim (hs.backlog r) (k.ended r)

theorem Step.tags_subperm (h : Step s t w gone) (k : SoundStep s t w gone) :
    (t.live.map Record.tag).Subperm (s.live.map Record.tag) := by
  rw [((live_perm s w).map _).subperm_left, ((live_perm t w).map _).subperm_right, elsewhere_congr h.others, h.backlog]
  have hperm : List.Perm ((t.queue w ++ gone ++ (s.rpt.backlog ++ elsewhere s w)).map Record.tag)
      ((t.queue w ++ (s.rpt.backlog ++ gone) ++ elsewhere s w).map Record.tag) := by
    refine List.Perm.map _ ?_
    simp only [List.append_assoc]
    exact (List.perm_append_comm_assoc gone s.rpt.backlog (elsewhere s w)).append_left _
  rw [← hperm.subperm_right, List.append_assoc (s.queue w), List.map_append, List.map_append (l₁ := s.queue w)]
  exact (List.subperm_append_right _).mpr k.tags

theorem Step.goes {p : Prop} (hp : p → Sound s) (h : Step s t w gone) (k : p → SoundStep s t w gone) : Goes p s t where
  epoch := h.epoch
  profile v := by
    by_cases e : v = w
    · rw [e]; exact h.profile
    · rw [h.others v e]
  order v := by
    by_cases e : v = w
    · rw [e]; exact h.order
    · rw [queue_eq, h.others v e, queue_eq]
  count := h.length_live_le
  sound hc := h.sound (hp hc) (k hc)
  tags hc := h.tags_subperm (k hc)
  aborts hc hd ha v := by
    by_cases e : v = w
    · rw [e]; exact (k hc).aborts hd ha
    · rw [queue_eq, h.others v e]; exact ha v

theorem Step.fits (h : Step s t w gone) (hf : Fits s) (k : FitStep s t w gone)
    (hm : MessagesFit t) : Fits t := by
  refine ⟨fun v => ?_, fun r hr => ?_, hm⟩
  · by_cases e : v = w
    · rw [e]; exact k.window
    · rw [h.others v e]; exact (hf.window v).of_writing (writing_of_own k.own e)
  · rw [h.backlog, List.mem_append] at hr
    exact hr.elim (hf.backlog r) (k.ended r)

end

end Sys2Proof.Records
end

section
namespace Sys2Proof.Records

open Sys2Proof Sys2Proof.Machine

/-! ## Nothing moves -/

/-- The parts of the state that hold records, and the engine's hold on them. -/
def holds (s : State) : Vector Window 6 × Word × Option (Fin 6) × Option Access × List Record :=
  (s.win, s.epoch, s.sch.grant, s.bus.access, s.rpt.backlog)

/-- The parts of the state that hold a reply or a report. -/
def messages (s : State) : Option Reply × List Report × List ReplayFrame := (s.dsp.slot, s.rpt.queue, s.lnk.replay)

theorem messagesFit_of_eq {s t : State} (h : messages t = messages s) (hm : MessagesFit s) : MessagesFit t := by
  simp only [messages, Prod.mk.injEq] at h
  obtain ⟨hd, hq, hl⟩ := h
  exact ⟨by rw [hd]; exact hm.reply, by rw [hq]; exact hm.queue, by rw [hl]; exact hm.replay⟩

theorem window_congr {s t : State} (h : t.win = s.win) (w : Fin 6) : t.window w = s.window w := by simp [State.window, h]

/-- No record has moved; the messages fit as before. -/
theorem Moves.same {p : Prop} {s t : State} (hp : p → Sound s) (h : holds t = holds s) (hm : MessagesFit s → MessagesFit t) :
    Moves p s t := by
  simp only [holds, Prod.mk.injEq] at h
  obtain ⟨hwin, hepoch, hgrant, haccess, hbacklog⟩ := h
  have hw := window_congr hwin
  have hq : t.queue = s.queue := funext fun w => by rw [queue_eq, hw, queue_eq]
  have hlive : t.live = s.live := by simp only [State.live, State.busSide, hq, hbacklog]
  refine ⟨⟨hepoch, fun w => by rw [hw], fun w => by rw [hq], by rw [hlive], fun hc => ?_, fun _ => by rw [hlive],
    fun _ _ ha => by unfold AbortsRun; rw [hq]; exact ha⟩, fun _ hf => ?_⟩
  · obtain ⟨h1, h2, h3⟩ := hp hc
    exact ⟨by rw [hgrant]; intro w; rw [hw]; exact h1 w, by rw [haccess, hgrant]; exact h2, by rw [hbacklog]; exact h3⟩
  · refine ⟨fun w => ?_, by rw [hbacklog]; exact hf.backlog, hm hf.messages⟩
    have hwr : t.writing w = s.writing w := by unfold State.writing; rw [haccess]
    rw [hw, hwr]; exact hf.window w

/-- Neither a record nor a message has moved. -/
theorem Moves.frame {p : Prop} {s t : State} (hp : p → Sound s) (h : holds t = holds s) (hm : messages t = messages s) : Moves p s t :=
  Moves.same hp h (messagesFit_of_eq hm)

theorem Moves.refl {p : Prop} {s : State} (hp : p → Sound s) : Moves p s s := Moves.frame hp rfl rfl

/-! ## The head of a window -/

theorem queue_of_head {s : State} {w : Fin 6} {r : Record} (h : s.head w = some r) : s.queue w = r :: (s.queue w).tail := by
  unfold State.head at h
  exact (List.cons_head?_tail h).symm

theorem window_setHead {s : State} {w : Fin 6} {r : Record} (h : s.head w = some r) (r' : Record) :
    (s.setHead w r').window w = { s.window w with queue := r' :: (s.queue w).tail } := by
  unfold State.setHead
  rw [queue_of_head h]
  simp [window_setQueue]

theorem window_setHead_ne (s : State) {v w : Fin 6} (r' : Record) (h : v ≠ w) : (s.setHead w r').window v = s.window v := by
  unfold State.setHead
  split
  · rfl
  · simp [window_setQueue, h]

theorem head_setHead {s : State} {w : Fin 6} {r : Record} (h : s.head w = some r) (r' : Record) : (s.setHead w r').head w = some r' := by
  rw [head_eq, window_setHead h]; rfl

theorem head_setHead_ne (s : State) {v w : Fin 6} (r' : Record) (h : v ≠ w) : (s.setHead w r').head v = s.head v := by
  rw [head_eq, window_setHead_ne s r' h, head_eq]

/-- The facts about a window whose head is `r`. -/
theorem WindowSound.of_head {x : Window} {g : Prop} {r : Record} (h : WindowSound x g) (hr : x.queue.head? = some r) :
    RecordSound r ∧ (g ↔ r.state = .running) ∧ x.state ≠ .disabled ∧ (x.state = .faulted → r.state = .queued) := by
  have hq : x.queue ≠ [] := by rintro e; simp [e] at hr
  have hm : r ∈ x.queue := List.mem_of_head? hr
  exact ⟨h.records r hm, by rw [h.running]; simp [hr], fun e => hq (h.disabled e), fun e => h.faulted e r hm⟩

theorem Sound.granted_iff {s : State} (h : Sound s) {w : Fin 6} {r : Record} (hr : s.head w = some r) :
    s.sch.grant = some w ↔ r.state = .running := ((h.window w).of_head hr).2.1

/-- A window whose records are all QUEUED, where the grant names another or none. -/
theorem WindowSound.of_queued {x : Window} {g : Prop} (hr : ∀ r ∈ x.queue, RecordSound r ∧ r.state = .queued) (hg : ¬g)
    (hd : x.state = .disabled → x.queue = []) : WindowSound x g where
  records r h := (hr r h).1
  tail r h := (hr r (List.mem_of_mem_tail h)).2
  running := by
    refine iff_of_false hg ?_
    rintro ⟨r, h, e⟩
    rw [(hr r (List.mem_of_head? h)).2] at e
    cases e
  disabled := hd
  faulted _ r h := (hr r h).2

/-- The records behind the head are sound and QUEUED. -/
theorem WindowSound.queued_tail {x : Window} {g : Prop} (h : WindowSound x g) :
    ∀ r ∈ x.queue.tail, RecordSound r ∧ r.state = .queued :=
  fun r hr => ⟨h.records r (List.mem_of_mem_tail hr), h.tail r hr⟩

/-- The head of window `w` has become `r'` from `r`. -/
structure Rehead (s t : State) (w : Fin 6) (r r' : Record) : Prop where
  head : s.head w = some r
  win : t.win = (s.setHead w r').win
  epoch : t.epoch = s.epoch
  backlog : t.rpt.backlog = s.rpt.backlog
  sameEpoch : r'.epoch = r.epoch

/-- What the new head keeps of the discipline. -/
structure SoundRehead (s t : State) (w : Fin 6) (r r' : Record) : Prop where
  tag : r'.tag = r.tag
  record : RecordSound r'
  running : t.sch.grant = some w ↔ r'.state = .running
  grant : ∀ v, v ≠ w → (t.sch.grant = some v ↔ s.sch.grant = some v)
  faulted : (s.window w).state = .faulted → r'.state = .queued
  access : ∀ a, t.bus.access = some a → t.sch.grant = some a.window
  abort : (r.abort.isSome = true → r.state = .running) → r'.abort.isSome = true → r'.state = .running

theorem Rehead.window {s t : State} {w : Fin 6} {r r' : Record} (h : Rehead s t w r r') :
    t.window w = { s.window w with queue := r' :: (s.queue w).tail } :=
  (window_congr h.win w).trans (window_setHead h.head r')

theorem Rehead.step {s t : State} {w : Fin 6} {r r' : Record} (h : Rehead s t w r r') : Step s t w [] := by
  have hq : t.queue w = r' :: (s.queue w).tail := by rw [queue_eq, h.window]
  refine ⟨fun v hv => (window_congr h.win v).trans (window_setHead_ne s r' hv), by rw [h.window], h.epoch, by simp [h.backlog], ?_, ?_⟩
  · rw [hq, queue_of_head h.head]; simp [h.sameEpoch]
  · rw [hq, queue_of_head h.head]; simp

theorem Rehead.soundStep {s t : State} {w : Fin 6} {r r' : Record} (h : Rehead s t w r r') (hs : Sound s)
    (k : SoundRehead s t w r r') : SoundStep s t w [] := by
  have hq : t.queue w = r' :: (s.queue w).tail := by rw [queue_eq, h.window]
  have hw := hs.window w
  refine ⟨?_, ⟨?_, ?_, ?_, ?_, ?_⟩, k.grant, k.access, by simp, fun _ ha => ?_⟩
  · rw [hq, queue_of_head h.head]; simp [k.tag, List.Subperm.refl]
  · rw [h.window]
    exact List.forall_mem_cons.mpr ⟨k.record, fun q hq => hw.records q (List.mem_of_mem_tail hq)⟩
  · rw [h.window]; exact hw.tail
  · rw [h.window]; simpa using k.running
  · rw [h.window]; exact fun e => absurd e (hw.of_head h.head).2.2.1
  · rw [h.window]
    exact fun e => List.forall_mem_cons.mpr ⟨k.faulted e, hw.tail⟩
  · rw [hq]
    exact List.forall_mem_cons.mpr ⟨k.abort (ha w r (List.mem_of_head? h.head)), fun q hq => ha w q (List.mem_of_mem_tail hq)⟩

theorem Rehead.goes {p : Prop} {s t : State} {w : Fin 6} {r r' : Record} (hp : p → Sound s) (h : Rehead s t w r r')
    (k : p → SoundRehead s t w r r') : Goes p s t :=
  h.step.goes hp fun hc => h.soundStep (hp hc) (k hc)

/-- The sizes stay as they must be when the new head needs no more than there is. -/
theorem Rehead.fits {s t : State} {w : Fin 6} {r r' : Record} (h : Rehead s t w r r') (hf : Fits s) (own : AccessOwn s t w)
    (hn : need (s.window w).profile.width (t.writing w) r' ≤ 192) (hm : messages t = messages s) : Fits t := by
  refine h.step.fits hf ⟨own, ⟨?_, ?_⟩, by simp⟩ (messagesFit_of_eq hm hf.messages)
  · rw [h.window]; simpa using hn
  · rw [h.window]; exact (hf.window w).tail

/-- A head that needs no more than it did before. -/
theorem Moves.rehead {p : Prop} {s t : State} {w : Fin 6} {r r' : Record} (hp : p → Sound s) (h : Rehead s t w r r')
    (k : p → SoundRehead s t w r r') (own : p → AccessOwn s t w)
    (hn : p → need (s.window w).profile.width (s.writing w) r ≤ 192 → need (s.window w).profile.width (t.writing w) r' ≤ 192)
    (hm : messages t = messages s) : Moves p s t where
  toGoes := h.goes hp k
  fits hc hf := h.fits hf (own hc) (hn hc ((hf.window w).head r h.head)) hm

/-- The head `r` of window `w` has gone to the backlog as `r'`, and the window may have faulted with it. -/
structure Retire (s t : State) (w : Fin 6) (r r' : Record) : Prop where
  head : s.head w = some r
  others : ∀ v, v ≠ w → t.window v = s.window v
  profile : (t.window w).profile = (s.window w).profile
  queue : t.queue w = (s.queue w).tail
  state : (t.window w).state = (s.window w).state ∨ (t.window w).state = .faulted
  epoch : t.epoch = s.epoch
  backlog : t.rpt.backlog = s.rpt.backlog ++ [r']
  grant : t.sch.grant = if s.sch.grant = some w then none else s.sch.grant

/-- What its end keeps of the discipline: it is off the engine, or no access is left in progress. -/
structure SoundRetire (s t : State) (w : Fin 6) (r r' : Record) : Prop where
  tag : r'.tag = r.tag
  ended : r'.state = .completing ∧ r'.outcome.isSome = true
  access : (r.state ≠ .running ∧ t.bus.access = s.bus.access) ∨ (r.state = .running ∧ t.bus.access = none)
  data : need (s.window w).profile.width (s.writing w) r ≤ 192 → r'.data.length ≤ 192

theorem Retire.step {s t : State} {w : Fin 6} {r r' : Record} (h : Retire s t w r r') : Step s t w [r'] := by
  refine ⟨h.others, h.profile, h.epoch, h.backlog, ?_, ?_⟩
  · rw [h.queue]; exact ((List.tail_sublist _)).map _
  · rw [h.queue]
    conv_rhs => rw [queue_of_head h.head]
    simp

theorem Retire.soundStep {s t : State} {w : Fin 6} {r r' : Record} (h : Retire s t w r r') (hs : Sound s)
    (k : SoundRetire s t w r r') : SoundStep s t w [r'] := by
  have hw := hs.window w
  have hq : (t.window w).queue = (s.window w).queue.tail := h.queue
  have hgr := hs.granted_iff h.head
  have hng : t.sch.grant ≠ some w := by rw [h.grant]; split <;> simp_all
  refine ⟨?_, .of_queued ?_ hng ?_, ?_, ?_, ?_, fun _ ha => ?_⟩
  · rw [h.queue]
    conv_rhs => rw [queue_of_head h.head]
    simpa [k.tag] using (List.perm_append_singleton _ _).subperm
  · rw [hq]; exact hw.queued_tail
  · rw [hq]
    rcases h.state with e | e
    · rw [e]; exact fun e' => absurd e' (hw.of_head h.head).2.2.1
    · rw [e]; simp
  · intro v hv
    rw [h.grant]
    split
    · rename_i e; rw [e]; simpa using fun x : w = v => hv x.symm
    · rfl
  · intro a ha
    rcases k.access with ⟨hn, e⟩ | ⟨-, e⟩
    · rw [h.grant, if_neg fun x => hn (hgr.mp x)]
      exact hs.access a (e ▸ ha)
    · rw [e] at ha; cases ha
  · simpa using k.ended
  · rw [h.queue]; exact fun q hq => ha w q (List.mem_of_mem_tail hq)

theorem SoundRetire.own {s t : State} {w : Fin 6} {r r' : Record} (k : SoundRetire s t w r r') (hs : Sound s)
    (hr : s.head w = some r) : AccessOwn s t w := by
  rcases k.access with ⟨-, e⟩ | ⟨hrun, -⟩
  · exact .inl e
  · refine .inr fun a ha => ?_
    exact Option.some.inj ((hs.access a ha).symm.trans ((hs.granted_iff hr).mpr hrun))

theorem Retire.fitStep {s t : State} {w : Fin 6} {r r' : Record} (h : Retire s t w r r') (hf : Fits s) (own : AccessOwn s t w)
    (hd : r'.data.length ≤ 192) : FitStep s t w [r'] := by
  have hq : (t.window w).queue = (s.window w).queue.tail := h.queue
  have htail := (hf.window w).tail
  refine ⟨own, WindowFits.of_writing (b := false) ⟨?_, ?_⟩ (by simp), by simpa using hd⟩
  · rw [hq, h.profile]; exact fun q hq => htail q (List.mem_of_mem_head? hq)
  · rw [hq, h.profile]; exact fun q hq => htail q (List.mem_of_mem_tail hq)

theorem Moves.retire {p : Prop} {s t : State} {w : Fin 6} {r r' : Record} (hp : p → Sound s) (h : Retire s t w r r')
    (k : p → SoundRetire s t w r r') (hm : messages t = messages s) : Moves p s t where
  toGoes := h.step.goes hp fun hc => h.soundStep (hp hc) (k hc)
  fits hc hf := h.step.fits hf (h.fitStep hf ((k hc).own (hp hc) h.head) ((k hc).data ((hf.window w).head r h.head)))
    (messagesFit_of_eq hm hf.messages)

end Sys2Proof.Records
end

section
namespace Sys2Proof.Records

open Sys2Proof Sys2Proof.Machine

/-! ## Result data still to come -/

/-- What the operations behind the one under way can append. -/
def laterRoom (width : Width) (r : Record) : Nat := ((r.ops.drop (r.opIndex + 1)).map (Op.room width 0 false)).sum

theorem room_of_op {r : Record} {op : Op} (h : r.op? = some op) (width : Width) (b : Bool) :
    r.room width b = op.room width r.unitIndex b + laterRoom width r := by
  obtain ⟨hlt, rfl⟩ := List.getElem?_eq_some_iff.mp h
  unfold Record.room
  rw [List.drop_eq_getElem_cons hlt]
  rfl

theorem room_of_no_op {r : Record} (h : r.op? = none) (width : Width) (b : Bool) : r.room width b = 0 := by
  simp [Record.room, List.drop_eq_nil_of_le (List.getElem?_eq_none_iff.mp h)]

theorem op_room_le (width : Width) (i : Nat) (b : Bool) (op : Op) : op.room width i b ≤ op.room width i false := by
  cases op <;> cases b <;> simp [Op.room]

theorem room_advance_le_later (width : Width) (b : Bool) (r : Record) : r.advance.room width b ≤ laterRoom width r := by
  simp only [Record.room, Record.advance, laterRoom]
  cases r.ops.drop (r.opIndex + 1) with
  | nil => simp
  | cons op more => simpa using op_room_le width 0 b op

theorem room_advance_le (width : Width) (b c : Bool) (r : Record) : r.advance.room width b ≤ r.room width c := by
  cases h : r.op? with
  | none =>
    have hle : r.ops.length ≤ r.opIndex := List.getElem?_eq_none_iff.mp h
    have : r.advance.op? = none := List.getElem?_eq_none_iff.mpr (Nat.le_succ_of_le hle)
    rw [room_of_no_op this]; exact Nat.zero_le _
  | some op =>
    rw [room_of_op h]
    exact (room_advance_le_later width b r).trans (Nat.le_add_left _ _)

theorem need_advance_le (width : Width) (b c : Bool) (r : Record) : need width b r.advance ≤ need width c r :=
  Nat.add_le_add_left (room_advance_le width b c r) _

/-! ## A head off the engine, and one that stays on it -/

section
variable {p : Prop} {s : State} {w : Fin 6} {r : Record}

/-- A PARKED head becomes READY, its operation ended or not (R38, R76, R77). -/
theorem Moves.ready {r' : Record} (hp : p → Sound s) (hr : s.head w = some r) (hpk : r.state = .parked) (h' : r' = r ∨ r' = r.advance) :
    Moves p s (s.setHead w { r' with state := .ready, wake := none }) := by
  have heq : r'.tag = r.tag ∧ r'.epoch = r.epoch ∧ r'.outcome = r.outcome ∧ r'.abort = r.abort := by
    rcases h' with rfl | rfl <;> exact ⟨rfl, rfl, rfl, rfl⟩
  obtain ⟨htag, hepoch, hout, habort⟩ := heq
  refine Moves.rehead hp ⟨hr, rfl, by simp, by simp, hepoch⟩ (fun hc => ?_) (fun _ => .inl (by simp)) (fun _ => ?_)
    (by simp [messages])
  · have hs := hp hc
    obtain ⟨hrec, hgr, -, hf⟩ := (hs.window w).of_head hr
    refine ⟨htag, ⟨hout.trans hrec.1, by simp, by simp⟩, ?_, by simp, fun e => ?_, by simpa using hs.access, ?_⟩
    · simp [hgr, hpk]
    · rw [hf e] at hpk; cases hpk
    · rw [habort]; intro h ha; rw [hpk] at h; cases h ha
  · have hwr : (s.setHead w { r' with state := .ready, wake := none }).writing w = s.writing w := by simp [State.writing]
    rw [hwr]
    rcases h' with rfl | rfl
    · exact id
    · exact (need_advance_le _ _ _ _).trans

/-- A head goes on to its next operation, its state as it was (R37, R38). -/
theorem Moves.advance (hp : p → Sound s) (hr : s.head w = some r) :
    Moves p s (s.setHead w r.advance) := by
  refine Moves.rehead hp ⟨hr, rfl, by simp, by simp, rfl⟩ (fun hc => ?_) (fun _ => .inl (by simp))
    (fun _ => (need_advance_le _ _ _ _).trans) (by simp [messages])
  have hs := hp hc
  obtain ⟨hrec, hgr, -, hf⟩ := (hs.window w).of_head hr
  exact ⟨rfl, hrec, by simpa [Record.advance] using hgr, by simp, hf, by simpa using hs.access, fun h => h⟩

theorem retireHead_retire (hr : s.head w = some r) (r' : Record) : Retire s (s.retireHead w r') w r r' := by
  have hwin : (s.retireHead w r').win = (s.setQueue w (s.queue w).tail).win := by simp [State.retireHead]
  obtain ⟨hq, hb, hg⟩ := retireHead_spec s w r'
  refine ⟨hr, fun v hv => ?_, ?_, hq, .inl ?_, by simp, hb, hg⟩
  · rw [window_congr hwin, window_setQueue, if_neg hv]
  · rw [window_congr hwin]; simp
  · rw [window_congr hwin]; simp

theorem window_failHead (s : State) (v w : Fin 6) (r : Record) (reason : FailReason) (detail : Nat) :
    (s.failHead w r reason detail).window v = (s.retireHead w (r.endFailed reason detail)).window v ∨
      v = w ∧ (s.failHead w r reason detail).window v =
        { (s.retireHead w (r.endFailed reason detail)).window v with state := .faulted } := by
  unfold State.failHead
  dsimp only
  split
  · by_cases h : v = w
    · subst h; simp
    · exact .inl (window_setWindow_ne _ _ h)
  · exact .inl rfl

theorem failHead_parts (s : State) (w : Fin 6) (r : Record) (reason : FailReason) (detail : Nat) :
    (s.failHead w r reason detail).rpt = (s.retireHead w (r.endFailed reason detail)).rpt ∧
    (s.failHead w r reason detail).sch = (s.retireHead w (r.endFailed reason detail)).sch := by
  unfold State.failHead
  dsimp only
  split <;> simp

theorem failHead_retire (hr : s.head w = some r) (r₀ : Record) (reason : FailReason) (detail : Nat) :
    Retire s (s.failHead w r₀ reason detail) w r (r₀.endFailed reason detail) := by
  have h := retireHead_retire hr (r₀.endFailed reason detail)
  obtain ⟨hrpt, hsch⟩ := failHead_parts s w r₀ reason detail
  refine ⟨hr, fun v hv => ?_, ?_, ?_, ?_, by simp, by rw [hrpt]; exact h.backlog, by rw [hsch]; exact h.grant⟩
  · rcases window_failHead s v w r₀ reason detail with e | e
    · rw [e, h.others v hv]
    · exact absurd e.1 hv
  · rcases window_failHead s w w r₀ reason detail with e | e
    · rw [e, h.profile]
    · rw [e.2]; exact h.profile
  · rcases window_failHead s w w r₀ reason detail with e | e
    · rw [queue_eq, e]; exact h.queue
    · rw [queue_eq, e.2]; exact h.queue
  · rcases window_failHead s w w r₀ reason detail with e | e
    · rw [e]; exact h.state
    · rw [e.2]; exact .inr rfl

theorem retireHead_messages (s : State) (w : Fin 6) (r : Record) : messages (s.retireHead w r) = messages s := by
  unfold State.retireHead State.dropGrant
  split <;> rfl

theorem failHead_messages (s : State) (w : Fin 6) (r : Record) (reason : FailReason) (detail : Nat) :
    messages (s.failHead w r reason detail) = messages s := by
  rw [← retireHead_messages s w (r.endFailed reason detail)]
  unfold State.failHead
  dsimp only
  split <;> rfl

theorem data_le_of_need {width : Width} {b : Bool} (h : need width b r ≤ 192) : r.data.length ≤ 192 := (Nat.le_add_right _ _).trans h

/-- A PARKED head ends DONE (R38, R77). -/
theorem Moves.doneParked (hp : p → Sound s) (hr : s.head w = some r) (hpk : r.state = .parked) :
    Moves p s (s.retireHead w r.advance.endDone) :=
  Moves.retire hp (retireHead_retire hr _)
    (fun _ => ⟨rfl, ⟨rfl, rfl⟩, .inl ⟨by simp [hpk], by simp⟩, data_le_of_need⟩) (retireHead_messages ..)

/-- A PARKED head fails (R39). -/
theorem Moves.failParked (hp : p → Sound s) (hr : s.head w = some r) (hpk : r.state = .parked) (reason : FailReason) (detail : Nat) :
    Moves p s (s.failHead w r reason detail) :=
  Moves.retire hp (failHead_retire hr ..)
    (fun _ => ⟨rfl, ⟨rfl, rfl⟩, .inl ⟨by simp [hpk], by simp⟩, data_le_of_need⟩) (failHead_messages ..)

end

/-! ## Delivery of attention events -/

theorem waiterWindow_spec {s : State} {l : Fin 8} {tag : Word} {w : Fin 6} (h : s.waiterWindow l tag = some w) :
    ∃ r, s.head w = some r ∧ r.tag = tag ∧ (r.state = .running ∨ r.state = .parked) := by
  have := List.find?_some h
  cases hr : s.head w with
  | none => simp [hr] at this
  | some r =>
    simp only [hr, Bool.and_eq_true, Bool.or_eq_true, decide_eq_true_eq] at this
    exact ⟨r, rfl, this.1, this.2.imp id And.left⟩

/-- The head of window `w` is RUNNING, and stands for the record `r`. -/
def RunsAs (s : State) (w : Fin 6) (r : Record) : Prop :=
  ∃ h, s.head w = some h ∧ h.state = .running ∧ h.tag = r.tag ∧ h.epoch = r.epoch

/-- What a delivery does to the records: a RUNNING head goes on, and a PARKED one goes on or ends. -/
theorem wakeWaiter_cases (s : State) (l : Fin 8) (tag : Word) :
    s.wakeWaiter l tag = s ∨ ∃ w r, s.head w = some r ∧
      ((r.state = .running ∧ s.wakeWaiter l tag = s.setHead w r.advance) ∨
       (r.state = .parked ∧ s.wakeWaiter l tag = s.retireHead w r.advance.endDone) ∨
       (r.state = .parked ∧ s.wakeWaiter l tag = s.setHead w { r.advance with state := .ready, wake := none })) := by
  cases hw : s.waiterWindow l tag with
  | none => exact .inl (by simp [State.wakeWaiter, hw])
  | some w =>
    obtain ⟨r, hr, -, hst⟩ := waiterWindow_spec hw
    refine .inr ⟨w, r, hr, ?_⟩
    simp only [State.wakeWaiter, hw, hr]
    rcases hst with hst | hst
    · exact .inl ⟨hst, by simp [hst]⟩
    · right
      by_cases hf : r.advance.finished = true
      · exact .inl ⟨hst, by simp [hst, hf]⟩
      · exact .inr ⟨hst, by simp [hst, hf]⟩

section
variable {p : Prop} {s : State}

theorem wakeWaiter_moves (hp : p → Sound s) (l : Fin 8) (tag : Word) : Moves p s (s.wakeWaiter l tag) := by
  rcases wakeWaiter_cases s l tag with h | ⟨w, r, hr, ⟨hst, h⟩ | ⟨hst, h⟩ | ⟨hst, h⟩⟩ <;> rw [h]
  · exact .refl hp
  · exact .advance hp hr
  · exact .doneParked hp hr hst
  · exact .ready hp hr hst (.inr rfl)

theorem wakeWaiter_runsAs {w : Fin 6} {r : Record} (hr : RunsAs s w r) (l : Fin 8) (tag : Word) : RunsAs (s.wakeWaiter l tag) w r := by
  obtain ⟨h, hh, hrun, htag, hepoch⟩ := hr
  rcases wakeWaiter_cases s l tag with e | ⟨v, q, hq, e⟩
  · rw [e]; exact ⟨h, hh, hrun, htag, hepoch⟩
  · by_cases hv : w = v
    · subst hv
      obtain rfl : q = h := Option.some.inj (hq.symm.trans hh)
      rcases e with ⟨-, e⟩ | ⟨hst, -⟩ | ⟨hst, -⟩
      · rw [e]; exact ⟨q.advance, head_setHead hq _, hrun, htag, hepoch⟩
      · rw [hrun] at hst; cases hst
      · rw [hrun] at hst; cases hst
    · have hhead : (s.wakeWaiter l tag).head w = s.head w := by
        rcases e with ⟨-, e⟩ | ⟨-, e⟩ | ⟨-, e⟩ <;> rw [e]
        · exact head_setHead_ne s _ hv
        · rw [head_eq, (retireHead_retire hq _).others w hv, head_eq]
        · exact head_setHead_ne s _ hv
      exact ⟨h, hhead.trans hh, hrun, htag, hepoch⟩

/-- A change of attention lines alone moves no record. -/
theorem Moves.lines {t : State} (hp : p → Sound s) (hwin : t.win = s.win) (hepoch : t.epoch = s.epoch) (hsch : t.sch = s.sch)
    (hbus : t.bus = s.bus) (hdsp : t.dsp = s.dsp) (hrpt : t.rpt = s.rpt) (hlnk : t.lnk = s.lnk) : Moves p s t :=
  .frame hp (by simp [holds, *]) (by simp [messages, *])

theorem RunsAs.congr {t : State} {w : Fin 6} {r : Record} (h : RunsAs s w r) (hwin : t.win = s.win) : RunsAs t w r := by
  unfold RunsAs at *
  rw [head_eq, window_congr hwin]; exact h

theorem deliver_moves (hp : p → Sound s) (l : Fin 8) (tag : Word) (rest : List Word) : Moves p s (s.deliver l tag rest) :=
  have h : Moves p s ((s.setLine l { s.line l with waiters := rest }).lowerCount l ((s.line l).count - 1)) :=
    .lines hp (by simp) (by simp) (by simp) (by simp) (by simp) (by simp) (by simp)
  h.trans id (wakeWaiter_moves h.sound l tag)

theorem routeUpTo_moves (l : Fin 8) (n : Nat) {s : State} (hp : p → Sound s) : Moves p s (State.routeUpTo l n s) := by
  induction n generalizing s with
  | zero => exact .refl hp
  | succ n ih =>
    unfold State.routeUpTo
    split
    · exact .refl hp
    · split
      · have h := deliver_moves hp l ‹_› ‹_›
        exact h.trans id (ih h.sound)
      · exact .refl hp

theorem routeUpTo_runsAs (l : Fin 8) (n : Nat) {s : State} {w : Fin 6} {r : Record} (hr : RunsAs s w r) :
    RunsAs (State.routeUpTo l n s) w r := by
  induction n generalizing s with
  | zero => exact hr
  | succ n ih =>
    unfold State.routeUpTo
    split
    · exact hr
    · split
      · exact ih (wakeWaiter_runsAs (hr.congr (by simp)) l _)
      · exact hr

theorem route_moves (hp : p → Sound s) (l : Fin 8) : Moves p s (s.route l) := routeUpTo_moves l _ hp

theorem register_moves (hp : p → Sound s) (l : Fin 8) (tag : Word) : Moves p s (s.register l tag) :=
  have h : Moves p s (s.setLine l { s.line l with waiters := (s.line l).waiters ++ [tag] }) :=
    .lines hp (by simp) (by simp) (by simp) (by simp) (by simp) (by simp) (by simp)
  h.trans id (route_moves h.sound l)

theorem register_runsAs {w : Fin 6} {r : Record} (hr : RunsAs s w r) (l : Fin 8) (tag : Word) : RunsAs (s.register l tag) w r :=
  routeUpTo_runsAs l _ (hr.congr (by simp))

theorem recognise_moves (hp : p → Sound s) (l : Fin 8) (level : Bool) : Moves p s (s.recognise l level) := by
  unfold State.recognise
  dsimp only
  have lines : ∀ t : State, t.win = s.win ∧ t.epoch = s.epoch ∧ t.sch = s.sch ∧ t.bus = s.bus ∧ t.dsp = s.dsp ∧ t.rpt = s.rpt ∧
      t.lnk = s.lnk → Moves p s (t.route l) := by
    rintro t ⟨hwin, hepoch, hsch, hbus, hdsp, hrpt, hlnk⟩
    have h : Moves p s t := .lines hp hwin hepoch hsch hbus hdsp hrpt hlnk
    exact h.trans id (route_moves h.sound l)
  split
  · exact lines _ (by simp)
  · exact lines _ (by simp)

theorem reach_moves (hp : p → Sound s) (n : Nat) : Moves p s (s.reach n) := .frame hp rfl rfl

theorem recogniseLine_moves (hp : p → Sound s) (l : Fin 8) : Moves p s (s.recogniseLine l) := by
  unfold State.recogniseLine
  split
  · exact .refl hp
  · have h := reach_moves (p := p) hp
    exact (h _).trans id (recognise_moves (h _).sound l _)

end

end Sys2Proof.Records
end

section
namespace Sys2Proof.Records

open Sys2Proof Sys2Proof.Machine

/-! ## Settlement at an access boundary -/

/-- The RUNNING head of window `w` stands at a boundary: the grant names the window, and no access is in progress. -/
def AtBoundary (s : State) (w : Fin 6) : Prop := s.sch.grant = some w ∧ s.bus.access = none

section
variable {p : Prop} {s : State} {w : Fin 6} {r : Record}

theorem AtBoundary.running (hb : AtBoundary s w) (hs : Sound s) (hr : s.head w = some r) : r.state = .running :=
  (hs.granted_iff hr).mp hb.1

theorem AtBoundary.writing (hb : AtBoundary s w) (v : Fin 6) : s.writing v = false := by simp [State.writing, hb.2]

theorem AtBoundary.own {t : State} (hb : AtBoundary s w) : AccessOwn s t w := .inr fun a ha => by rw [hb.2] at ha; cases ha

/-- The head leaves RUNNING for a state of waiting, and its grant ends: `h` is the head as it stands, and `r` the record that takes its
place. -/
theorem goes_leave {h : Record} (hp : p → Sound s) (hb : p → AtBoundary s w) (hh : s.head w = some h) (hepoch : r.epoch = h.epoch)
    (htag : r.tag = h.tag) (ha : r.abort = none) (hr : p → RecordSound r) (hst : r.state ≠ .running) :
    Goes p s ((s.setHead w r).dropGrant w) := by
  refine Rehead.goes hp ⟨hh, by simp, by simp, by simp, hepoch⟩ fun hc => ?_
  obtain ⟨hgrant, haccess⟩ := hb hc
  have hrun := (hb hc).running (hp hc) hh
  refine ⟨htag, hr hc, ?_, fun v hv => ?_, fun e => ?_, by simp [haccess], by simp [ha]⟩
  · simp [dropGrant_grant, hgrant, hst]
  · simp [dropGrant_grant, hgrant, Ne.symm hv]
  · rw [((hp hc).window w |>.of_head hh).2.2.2 e] at hrun; cases hrun

theorem messages_leave (s : State) (w : Fin 6) (r : Record) : messages ((s.setHead w r).dropGrant w) = messages s := by simp [messages]

theorem fits_leave {t : State} {h : Record} (hb : AtBoundary t w) (hh : t.head w = some h) (hepoch : r.epoch = h.epoch) (hf : Fits t)
    (hn : need (t.window w).profile.width false r ≤ 192) : Fits ((t.setHead w r).dropGrant w) := by
  have hw : ((t.setHead w r).dropGrant w).writing w = false := by simp [State.writing, hb.2]
  exact Rehead.fits ⟨hh, by simp, by simp, by simp, hepoch⟩ hf hb.own (by rw [hw]; exact hn) (messages_leave t w r)

/-- The RUNNING head waits from here on (R6, R41): `st` says how, and `wk` for what. -/
theorem Moves.leave (hp : p → Sound s) (hb : p → AtBoundary s w) (hr : s.head w = some r) (ha : r.abort = none) {st : TxState}
    {wk : Option Wake} (hst : st ≠ .running ∧ st ≠ .completing) (hwk : p → (wk.isSome = true ↔ st = .parked)) :
    Moves p s ((s.setHead w { r with state := st, wake := wk }).dropGrant w) where
  toGoes := goes_leave hp hb hr rfl rfl ha
    (fun hc => ⟨((hp hc).window w |>.of_head hr).1.1, hwk hc, hst.2⟩) hst.1
  fits hc hf := fits_leave (hb hc) hr rfl hf (by
    have := (hf.window w).head r hr
    rwa [(hb hc).writing] at this)

theorem Moves.yield (hp : p → Sound s) (hb : p → AtBoundary s w) (hr : s.head w = some r) (ha : r.abort = none) :
    Moves p s (s.yieldHead w r) := by
  refine Moves.leave (st := .ready) (wk := r.wake) hp hb hr ha (by simp) fun hc => ?_
  rw [((hp hc).window w |>.of_head hr).1.2.1, (hb hc).running (hp hc) hr]
  simp

theorem Moves.park (hp : p → Sound s) (hb : p → AtBoundary s w) (hr : s.head w = some r) (ha : r.abort = none) (wake : Wake) :
    Moves p s (s.parkHead w r wake) :=
  Moves.leave (st := .parked) (wk := some wake) hp hb hr ha (by simp) fun _ => by simp

/-- The head of a boundary ends (R8). -/
theorem Moves.endHead (hp : p → Sound s) (hb : p → AtBoundary s w) (hr : s.head w = some r) {r' : Record}
    (he : r'.tag = r.tag ∧ r'.data = r.data ∧ r'.state = .completing ∧ r'.outcome.isSome = true) : Moves p s (s.retireHead w r') :=
  Moves.retire hp (retireHead_retire hr _)
    (fun hc => ⟨he.1, he.2.2, .inr ⟨(hb hc).running (hp hc) hr, by simp [(hb hc).2]⟩, fun h => by
      rw [he.2.1]; exact data_le_of_need h⟩) (retireHead_messages ..)

/-- The head of a boundary fails (R43). -/
theorem Moves.failHead (hp : p → Sound s) (hb : p → AtBoundary s w) (hr : s.head w = some r) (reason : FailReason) (detail : Nat) :
    Moves p s (s.failHead w r reason detail) :=
  Moves.retire hp (failHead_retire hr ..)
    (fun hc => ⟨rfl, ⟨rfl, rfl⟩, .inr ⟨(hb hc).running (hp hc) hr, by simp [(hb hc).2]⟩, data_le_of_need⟩)
    (failHead_messages ..)

/-- The engine's access of the granted window begins or ends, and no record moves. -/
theorem Moves.engine {t : State} (hp : p → Sound s) (hwin : t.win = s.win) (hepoch : t.epoch = s.epoch)
    (hgrant : t.sch.grant = s.sch.grant) (hbacklog : t.rpt.backlog = s.rpt.backlog) (hm : messages t = messages s)
    (hg : p → s.sch.grant = some w) (ha : p → ∀ a, t.bus.access = some a → a.window = w) (own : p → AccessOwn s t w)
    (hfit : p → WindowFits (s.window w) (s.writing w) → WindowFits (s.window w) (t.writing w)) : Moves p s t := by
  have hwindow := window_congr hwin
  have hstep : Step s t w [] := by
    refine ⟨fun v _ => hwindow v, by rw [hwindow], hepoch, by simp [hbacklog], ?_, ?_⟩ <;> rw [queue_eq, hwindow, queue_eq]
    simp
  refine ⟨hstep.goes hp fun hc => ⟨?_, ?_, ?_, fun a h => ?_, by simp, ?_⟩, fun hc hf =>
    hstep.fits hf ⟨own hc, ?_, by simp⟩ (messagesFit_of_eq hm hf.messages)⟩
  · rw [queue_eq, hwindow]; simp [queue_eq, List.Subperm.refl]
  · rw [hwindow, hgrant]; exact (hp hc).window w
  · rw [hgrant]; simp
  · rw [hgrant, hg hc, ha hc a h]
  · intro _ h; rw [queue_eq, hwindow]; exact h w
  · rw [hwindow]; exact hfit hc (hf.window w)

theorem begin_access (b : BusEngine) (q : Profile) (a : Access) : (b.begin q a).access = some a := by
  unfold BusEngine.begin
  split <;> rfl

theorem beginAccess_access (h : (s.beginAccess w r).bus.access ≠ s.bus.access) {a : Access}
    (ha : (s.beginAccess w r).bus.access = some a) : a.window = w := by
  revert h ha
  unfold State.beginAccess
  split
  · simp
  · split
    · simp
    · simp only [begin_access, Option.some.injEq]
      rintro - rfl
      rfl

theorem messages_of_frame {t : State} (hd : t.dsp = s.dsp) (hr : t.rpt = s.rpt) (hl : t.lnk = s.lnk) : messages t = messages s := by
  simp [messages, *]

theorem beginAccess_moves (hp : p → Sound s) (hb : p → AtBoundary s w) : Moves p s (s.beginAccess w r) := by
  refine .engine (w := w) hp (by simp) (by simp) (by simp) (by simp) (messages_of_frame (by simp) (by simp) (by simp))
    (fun hc => (hb hc).1) (fun hc a h => ?_) (fun hc => (hb hc).own) fun hc h => h.of_writing (by simp [(hb hc).writing])
  exact beginAccess_access (by rw [h, (hb hc).2]; simp) h

theorem beginOrWait_moves (hp : p → Sound s) (hb : p → AtBoundary s w) : Moves p s (s.beginOrWait w r) := by
  unfold State.beginOrWait
  split
  · exact .refl hp
  · exact beginAccess_moves hp hb

theorem yieldOrGo_moves (hp : p → Sound s) (hb : p → AtBoundary s w) (hr : s.head w = some r) (ha : r.abort = none) (starts : Bool) :
    Moves p s (s.yieldOrGo starts w r) := by
  unfold State.yieldOrGo
  dsimp only
  split
  · exact .yield hp hb hr ha
  · generalize ht : (if s.sliceReached = true then ({ s with sch.slice := 0 } : State) else s) = t
    have h : Moves p s t ∧ (p → AtBoundary t w) := by
      subst ht
      split
      · exact ⟨.frame hp rfl rfl, hb⟩
      · exact ⟨.refl hp, hb⟩
    split
    · exact h.1.trans id (beginOrWait_moves h.1.sound h.2)
    · exact h.1

/-! ### The cases of R41 -/

/-- What the settlement of a head at a boundary can do, where its operation has not failed (R41). -/
inductive Settles (starts : Bool) (w : Fin 6) (s : State) (r : Record) (n : Nat) : State → Prop
  | done : Settles starts w s r n (s.retireHead w r.endDone)
  | cancelled (cause : CancelCause) : Settles starts w s r n (s.retireHead w (r.endCancelled cause))
  | park (wake : Wake) (ha : r.abort = none) : Settles starts w s r n (s.parkHead w r wake)
  | go (ha : r.abort = none) : Settles starts w s r n (s.yieldOrGo starts w r)
  | lineOff (l : Fin 8) : Settles starts w s r n (s.failHead w r .lineOff l.val)
  | wait (l : Fin 8) (wake : Wake) (ha : r.abort = none) : Settles starts w s r n ((s.register l r.tag).parkHead w r wake)
  | stop (l : Fin 8) : Settles starts w s r n (s.register l r.tag)
  | again (l : Fin 8) (k : Nat) (hk : n = k + 1) :
      Settles starts w s r n (State.settleUpTo starts w k .ended (s.register l r.tag))

theorem settleUpTo_of_empty (starts : Bool) (hr : s.head w = none) (n : Nat) (b : Boundary) : State.settleUpTo starts w n b s = s := by
  unfold State.settleUpTo
  simp [hr]

theorem settleUpTo_settles (starts : Bool) (hr : s.head w = some r) (n : Nat) {b : Boundary} (hb : ∀ reason detail, b ≠ .failed reason detail) :
    Settles starts w s r n (State.settleUpTo starts w n b s) := by
  unfold State.settleUpTo
  simp only [hr]
  split
  · exact .done
  split
  · exact .cancelled _
  rename_i ha
  split
  · split
    · exact .park _ ha
    · exact .go ha
  · exact .park _ ha
  · split
    · exact .lineOff _
    · split
      · exact .wait _ _ ha
      · split
        · exact .stop _
        · exact .again _ _ rfl
  · exact .go ha

/-- A registration leaves the RUNNING head at its boundary, whatever records it wakes. -/
theorem register_atBoundary (hs : Sound s) (hb : AtBoundary s w) (hr : s.head w = some r) (l : Fin 8) (tag : Word) :
    AtBoundary (s.register l tag) w ∧ RunsAs (s.register l tag) w r := by
  have hrun : RunsAs (s.register l tag) w r := register_runsAs ⟨r, hr, hb.running hs hr, rfl, rfl⟩ l tag
  have hm : Moves True s (s.register l tag) := register_moves (fun _ => hs) l tag
  obtain ⟨h, hh, hst, hsame⟩ := hrun
  exact ⟨⟨((hm.sound trivial).granted_iff hh).mpr hst, by simp [hb.2]⟩, h, hh, hst, hsame⟩

/-- What a new record at the head leaves of the queues' lengths and orders, whichever record stood there. -/
theorem goes_setHead_of_not (hn : ¬p) {t : State} (ht : Goes p s t) (hr : s.head w = some r) {r' : Record} (he : r'.epoch = r.epoch) :
    Goes p s ((t.setHead w r').dropGrant w) := by
  have hwindow : ∀ v, ((t.setHead w r').dropGrant w).window v = (t.setHead w r').window v := fun v => window_congr (by simp) v
  cases hh : t.head w with
  | none =>
    have hq : t.queue w = [] := List.head?_eq_none_iff.mp hh
    have hset : t.setHead w r' = t := by simp [State.setHead, hq]
    rw [hset] at hwindow ⊢
    have hstep : Step t (t.dropGrant w) w [] :=
      ⟨fun v _ => hwindow v, by rw [hwindow], by simp, by simp, by simp, by simp⟩
    exact ht.trans id (hstep.goes (fun h => absurd h hn) fun h => absurd h hn)
  | some h =>
    have hq : ((t.setHead w r').dropGrant w).queue w = r' :: (t.queue w).tail := by rw [queue_eq, hwindow, window_setHead hh]
    have hothers : ∀ v, v ≠ w → ((t.setHead w r').dropGrant w).window v = t.window v := fun v hv => by
      rw [hwindow, window_setHead_ne t r' hv]
    refine ⟨by simp [ht.epoch], fun v => ?_, fun v => ?_, le_trans (le_of_eq ?_) ht.count, fun h => absurd h hn, fun h => absurd h hn,
      fun h => absurd h hn⟩
    · rw [hwindow, ← ht.profile v]; simp
    · by_cases hv : v = w
      · subst hv
        have horder := (ht.order v).tail
        rw [hq, queue_of_head hr]
        simpa [he] using horder
      · rw [queue_eq, hothers v hv]; exact ht.order v
    · rw [(live_perm t w).length_eq, (live_perm _ w).length_eq, elsewhere_congr hothers, hq]
      conv_rhs => rw [queue_of_head hh]
      simp

/-- The head waits on a line's event after its registration (R37, R38). Where the discipline does not hold, the registration may have
brought another record to the head; the one that parks then stood before it. -/
theorem Moves.registerAndPark (hp : p → Sound s) (hb : p → AtBoundary s w) (hr : s.head w = some r) (ha : r.abort = none) (l : Fin 8)
    (wake : Wake) : Moves p s ((s.register l r.tag).parkHead w r wake) := by
  have ht : Moves p s (s.register l r.tag) := register_moves hp l r.tag
  by_cases hc : p
  · obtain ⟨hbt, h, hh, -, htag, hepoch⟩ := register_atBoundary (hp hc) (hb hc) hr l r.tag
    have hrec := ((hp hc).window w |>.of_head hr).1
    refine ⟨ht.toGoes.trans id (goes_leave ht.sound (fun _ => hbt) hh hepoch.symm htag.symm ha (fun _ => ⟨hrec.1, by simp, by simp⟩)
      (by simp)), fun _ hf => fits_leave hbt hh hepoch.symm (ht.fits hc hf) ?_⟩
    have := (hf.window w).head r hr
    rw [ht.profile w]
    rwa [(hb hc).writing] at this
  · exact ⟨goes_setHead_of_not hc ht.toGoes hr rfl, fun h => absurd h hc⟩

theorem settleUpTo_moves (hp : p → Sound s) (hb : p → AtBoundary s w) (starts : Bool) (n : Nat) {b : Boundary}
    (hnf : ∀ reason detail, b ≠ .failed reason detail) : Moves p s (State.settleUpTo starts w n b s) := by
  induction n using Nat.strong_induction_on generalizing s b with
  | _ n ih =>
  cases hr : s.head w with
  | none => rw [settleUpTo_of_empty starts hr]; exact .refl hp
  | some r =>
  have h := settleUpTo_settles starts hr n hnf
  generalize State.settleUpTo starts w n b s = t at h
  cases h with
  | done => exact .endHead hp hb hr ⟨rfl, rfl, rfl, rfl⟩
  | cancelled cause => exact .endHead hp hb hr ⟨rfl, rfl, rfl, rfl⟩
  | park wake ha => exact .park hp hb hr ha wake
  | go ha => exact yieldOrGo_moves hp hb hr ha starts
  | lineOff l => exact .failHead hp hb hr _ _
  | wait l wake ha => exact .registerAndPark hp hb hr ha l wake
  | stop l => exact register_moves hp l r.tag
  | again l k hk =>
    have ht := register_moves hp l r.tag
    have hbt : p → AtBoundary (s.register l r.tag) w := fun hc => (register_atBoundary (hp hc) (hb hc) hr l r.tag).1
    exact ht.trans id (ih k (by omega) ht.sound hbt (by simp))

end

end Sys2Proof.Records
end

section
namespace Sys2Proof.Records

open Sys2Proof Sys2Proof.Machine

/-! ## The settlement with its release, and the events that lead to it -/

section
variable {p : Prop} {s : State} {w : Fin 6} {r : Record}

theorem releaseAt_moves (hp : p → Sound s) (w : Fin 6) : Moves p s (s.releaseAt w) := by
  unfold State.releaseAt
  split
  · exact .frame hp rfl rfl
  · exact .refl hp

theorem settle_moves (hp : p → Sound s) (hb : p → AtBoundary s w) (starts : Bool) {b : Boundary}
    (hnf : ∀ reason detail, b ≠ .failed reason detail) : Moves p s (s.settle starts w b) :=
  have h := settleUpTo_moves hp hb starts (match s.head w with | some r => r.ops.length | none => 0) hnf
  h.trans id (releaseAt_moves h.sound w)

theorem settle_of_failed (hr : s.head w = some r) (starts : Bool) (reason : FailReason) (detail : Nat) :
    s.settle starts w (.failed reason detail) = (s.failHead w r reason detail).releaseAt w := by
  unfold State.settle State.settleUpTo
  simp only [hr]

theorem running_spec (h : s.running = some (w, r)) : s.sch.grant = some w ∧ s.head w = some r ∧ r.state = .running := by
  unfold State.running at h
  split at h
  · cases h
  · split at h
    · split at h
      · obtain ⟨rfl, rfl⟩ := Prod.mk.inj (Option.some.inj h)
        exact ⟨‹_›, ‹_›, ‹_›⟩
      · cases h
    · cases h

theorem settleWaiting_moves (hp : p → Sound s) : Moves p s s.settleWaiting := by
  unfold State.settleWaiting
  split
  · split
    · exact settle_moves hp (fun _ => ⟨(running_spec ‹_›).1, ‹_›⟩) true (by simp)
    · exact .refl hp
  · exact .refl hp

theorem releaseBus_moves (hp : p → Sound s) (displaced : Option (Fin 6)) : Moves p s (s.releaseBus displaced) := .frame hp rfl rfl

theorem answerRequest_moves (hp : p → Sound s) : Moves p s s.answerRequest := by
  unfold State.answerRequest
  split
  · split
    · exact settleWaiting_moves hp
    · split
      · exact releaseBus_moves hp none
      · exact .refl hp
  · exact .refl hp

/-! ## Replies -/

theorem formReply_moves (hp : p → Sound s) (n : Word) (k : Byte) (c : ResultCode) {body : List Byte} (hlen : body.length ≤ 88) :
    Moves p s (s.formReply n k c body) :=
  .same hp rfl fun hm => ⟨fun _ h => Option.some.inj h ▸ hlen, hm.queue, hm.replay⟩

theorem answerHold_moves (hp : p → Sound s) : Moves p s s.answerHold := by
  unfold State.answerHold
  split
  · exact .refl hp
  · have h : Moves p s { s with dsp.holdWait := none } := .frame hp rfl rfl
    exact h.trans id (formReply_moves h.sound _ _ _ (by simp))

/-! ## What a completed access does to its record -/

/-- The records agree in all that queues and the grant depend on. -/
def Alike (r r' : Record) : Prop :=
  r'.tag = r.tag ∧ r'.epoch = r.epoch ∧ r'.state = r.state ∧ r'.outcome = r.outcome ∧ r'.wake = r.wake ∧ r'.abort = r.abort

theorem alike_accessed (r : Record) (op : Op) (width : Width) (v : Word) : Alike r (r.accessed op width v).1 := by
  cases op <;> simp only [Record.accessed, Record.nextUnit, Record.polled, Record.scanned] <;> repeat' split
  all_goals exact ⟨rfl, rfl, rfl, rfl, rfl, rfl⟩

theorem length_unitBytes (width : Width) (v : Word) : (unitBytes width v).length = unitSize width := by
  cases width <;> rfl

/-- A record whose operation ends with bytes for which there was room needs no more than before. -/
theorem need_append_advance {op : Op} (h : r.op? = some op) {width : Width} {b : Bool} {bytes : List Byte}
    (hle : bytes.length ≤ op.room width r.unitIndex b) : need width false (r.append bytes).advance ≤ need width b r := by
  have hlater : (r.append bytes).advance.room width false ≤ laterRoom width r := room_advance_le_later width false (r.append bytes)
  have hdata : (r.append bytes).advance.data.length = r.data.length + bytes.length := by simp [Record.append, Record.advance]
  unfold need
  rw [hdata, room_of_op h]
  omega

/-- A record whose operation goes on needs no more than before where what it appended comes off its room. -/
theorem need_same_op {r' : Record} {op : Op} (h : r.op? = some op) {width : Width} {b c : Bool}
    (hops : r'.ops = r.ops ∧ r'.opIndex = r.opIndex)
    (hle : r'.data.length + op.room width r'.unitIndex c ≤ r.data.length + op.room width r.unitIndex b) :
    need width c r' ≤ need width b r := by
  have h' : r'.op? = some op := by rw [← h]; unfold Record.op?; rw [hops.1, hops.2]
  have hlater : laterRoom width r' = laterRoom width r := by unfold laterRoom; rw [hops.1, hops.2]
  unfold need
  rw [room_of_op h, room_of_op h', hlater]
  omega

theorem need_nextUnit_of_no_room {op : Op} (h : r.op? = some op) {width : Width} (hroom : ∀ i b, op.room width i b = 0) (n : Nat) (b : Bool) :
    need width false (r.nextUnit n).1 ≤ need width b r := by
  unfold Record.nextUnit
  split
  · exact need_advance_le ..
  · exact need_same_op h ⟨rfl, rfl⟩ (by simp [hroom])

theorem need_read {addr : Word} {n : Nat} {incr : Bool} (h : r.op? = some (.read addr n incr)) (width : Width) (b : Bool) (v : Word) :
    need width false ((r.append (unitBytes width v)).nextUnit n).1 ≤ need width b r := by
  unfold Record.nextUnit
  split
  · refine need_append_advance h ?_
    rw [length_unitBytes]
    exact Nat.le_mul_of_pos_left _ (by omega)
  · rename_i hlt
    refine need_same_op h ⟨rfl, rfl⟩ ?_
    simp only [Record.append, List.length_append, length_unitBytes, Op.room] at hlt ⊢
    cases width <;> simp only [unitSize] <;> omega

/-- After an access the record needs no more than before, or its operation has failed and it holds no more than it needed. -/
theorem need_accessed {op : Op} (h : r.op? = some op) (width : Width) (b : Bool) (v : Word) :
    need width false (r.accessed op width v).1 ≤ need width b r ∨
      ((∃ reason detail, (r.accessed op width v).2 = .failed reason detail) ∧
        (r.accessed op width v).1.data.length ≤ need width b r) := by
  cases op with
  | write | modify => exact .inl (need_advance_le ..)
  | writeBlock _ _ vs => exact .inl (need_nextUnit_of_no_room h (fun _ _ => rfl) vs.length b)
  | read => exact .inl (need_read h width b v)
  | waitAttention | delay => exact .inl (need_same_op h ⟨rfl, rfl⟩ (by simp [Record.accessed, Op.room]))
  | poll _ mask want _ attempts =>
    simp only [Record.accessed, Record.polled]
    split
    · exact .inl (need_advance_le ..)
    · split
      · exact .inl (need_same_op h ⟨rfl, rfl⟩ (by simp [Op.room]))
      · exact .inr ⟨⟨_, _, rfl⟩, Nat.le_add_right _ _⟩
  | scan _ n _ key mask cond req =>
    simp only [Record.accessed, Record.scanned]
    split
    · exact .inl (need_append_advance h (by simp [natBytes, wordBytes, Op.room]))
    · split
      · split
        · refine .inr ⟨⟨_, _, rfl⟩, ?_⟩
          simp [need, room_of_op h, Record.append, wordBytes, Op.room]
        · refine .inl ?_
          have hnext : need width b { r with unitIndex := r.unitIndex + 1 } ≤ need width b r :=
            need_same_op h ⟨rfl, rfl⟩ (by simp [Op.room])
          exact (need_append_advance (r := { r with unitIndex := r.unitIndex + 1 }) h (by simp [wordBytes, Op.room])).trans hnext
      · exact .inl (need_same_op h ⟨rfl, rfl⟩ (by simp [Op.room]))

/-! ## The end of an access -/

/-- The record at the head after its access, with no access in progress. -/
theorem unit_rehead {t : State} {r' : Record} (hr : s.head w = some r) (ha : Alike r r')
    (ht : t.win = s.win ∧ t.epoch = s.epoch ∧ t.rpt = s.rpt) : Rehead s (t.setHead w r') w r r' := by
  obtain ⟨hwin, hepoch, hrpt⟩ := ht
  refine ⟨hr, ?_, by simp [hepoch], by simp [hrpt], ha.2.1⟩
  unfold State.setHead State.setQueue State.setWindow
  simp only [queue_eq, window_congr hwin, hwin]
  split <;> simp [hwin]

theorem own_of_access {t : State} {a : Access} (ha : s.bus.access = some a) : AccessOwn s t a.window :=
  .inr fun b hb => by rw [ha] at hb; exact congrArg Access.window (Option.some.inj hb).symm

/-- The head under an access is RUNNING, and what is like it has its place in the queue. -/
theorem soundRehead_of_access {a : Access} {t : State} {r' : Record} (hs : Sound s) (ha : s.bus.access = some a)
    (hr : s.head a.window = some r) (hl : Alike r r') (hgrant : t.sch.grant = s.sch.grant)
    (haccess : ∀ b, t.bus.access = some b → b.window = a.window) : SoundRehead s t a.window r r' := by
  obtain ⟨htag, -, hst, hout, hwake, habort⟩ := hl
  obtain ⟨hrec, hgr, -, hf⟩ := (hs.window a.window).of_head hr
  refine ⟨htag, ?_, by rw [hgrant, hst]; exact hgr, by simp [hgrant], by rw [hst]; exact hf, fun b hb => ?_, by rw [habort, hst]; exact id⟩
  · unfold RecordSound; rw [hout, hwake, hst]; exact hrec
  · rw [hgrant, haccess b hb]; exact hs.access a ha

/-- The state in which an access has just ended, before its boundary is settled (R72, R87). -/
def endedAccess (s : State) (w : Fin 6) (k i : Nat) (r : Record) : State :=
  { s with bus.access := none, bus.prevUnit := some (k, i), sch.slice := s.sch.slice + 1 }.setHead w r

theorem endAccess_eq (s : State) (w : Fin 6) (k i : Nat) (r : Record) (b : Boundary) :
    s.endAccess w k i r b = ((endedAccess s w k i r).settle true w b).answerHold := rfl

theorem endedAccess_atBoundary {a : Access} (hs : Sound s) (ha : s.bus.access = some a) (k i : Nat) (r' : Record) :
    AtBoundary (endedAccess s a.window k i r') a.window :=
  ⟨by simpa [endedAccess] using hs.access a ha, by simp [endedAccess]⟩

theorem endedAccess_rehead {a : Access} (hr : s.head a.window = some r) {r' : Record} (hl : Alike r r') (k i : Nat) :
    Rehead s (endedAccess s a.window k i r') a.window r r' := unit_rehead hr hl ⟨rfl, rfl, rfl⟩

/-- The access ends, its operation not failed. -/
theorem endAccess_moves {a : Access} (hp : p → Sound s) (ha : s.bus.access = some a) (hr : s.head a.window = some r) {r' : Record}
    (hl : Alike r r') {b : Boundary} (hnf : ∀ reason detail, b ≠ .failed reason detail) (k i : Nat)
    (hn : need (s.window a.window).profile.width false r' ≤ need (s.window a.window).profile.width (s.writing a.window) r) :
    Moves p s (s.endAccess a.window k i r' b) := by
  have hunit : Moves p s (endedAccess s a.window k i r') := by
    refine .rehead hp (endedAccess_rehead hr hl k i)
      (fun hc => soundRehead_of_access (hp hc) ha hr hl (by simp [endedAccess]) (by simp [endedAccess]))
      (fun _ => own_of_access ha) (fun _ h => ?_) (messages_of_frame (by simp [endedAccess]) (by simp [endedAccess]) (by simp [endedAccess]))
    have hw : (endedAccess s a.window k i r').writing a.window = false := by simp [endedAccess, State.writing]
    rw [hw]
    exact hn.trans h
  have hset := settle_moves hunit.sound (fun hc => endedAccess_atBoundary (hp hc) ha k i r') true hnf
  rw [endAccess_eq]
  exact (hunit.trans id hset).trans id (answerHold_moves (hunit.trans id hset).sound)

/-- The access ends with its operation failed (R43). -/
theorem endAccess_failed_moves {a : Access} (hp : p → Sound s) (ha : s.bus.access = some a) (hr : s.head a.window = some r) {r' : Record}
    (hl : Alike r r') (reason : FailReason) (detail : Nat) (k i : Nat)
    (hd : r'.data.length ≤ need (s.window a.window).profile.width (s.writing a.window) r) :
    Moves p s (s.endAccess a.window k i r' (.failed reason detail)) := by
  have hunit := endedAccess_rehead (a := a) hr hl k i
  have hhead : (endedAccess s a.window k i r').head a.window = some r' := by rw [head_eq, hunit.window]; rfl
  obtain ⟨-, others, profile, queue, state, epoch, backlog, grant⟩ := failHead_retire hhead r' reason detail
  have hfail : Retire s ((endedAccess s a.window k i r').failHead a.window r' reason detail) a.window r (r'.endFailed reason detail) := by
    refine ⟨hr, fun v hv => ?_, ?_, ?_, ?_, epoch.trans hunit.epoch, backlog.trans (by rw [hunit.backlog]), grant.trans (by simp [endedAccess])⟩
    · rw [others v hv, window_congr hunit.win, window_setHead_ne s r' hv]
    · rw [profile, hunit.window]
    · rw [queue, queue_eq, hunit.window]; rfl
    · rw [hunit.window] at state; exact state
  have hmove : Moves p s ((endedAccess s a.window k i r').failHead a.window r' reason detail) :=
    .retire hp hfail (fun hc => ⟨hl.1, ⟨rfl, rfl⟩, .inr ⟨((hp hc).granted_iff hr).mp ((hp hc).access a ha), by simp [endedAccess]⟩,
      hd.trans⟩)
      ((failHead_messages ..).trans (messages_of_frame (by simp [endedAccess]) (by simp [endedAccess]) (by simp [endedAccess])))
  have hrel := hmove.trans id (releaseAt_moves hmove.sound a.window)
  rw [endAccess_eq, settle_of_failed hhead]
  exact hrel.trans id (answerHold_moves hrel.sound)

/-- The access in progress is forgotten, with no operation for it. -/
theorem dropAccess_moves {a : Access} (hp : p → Sound s) (ha : s.bus.access = some a)
    (hn : ∀ r, s.head a.window = some r → r.op? = none) : Moves p s { s with bus.access := none } := by
  refine .engine (w := a.window) hp rfl rfl rfl rfl rfl (fun hc => (hp hc).access a ha) (by simp) (fun _ => own_of_access ha)
    fun _ hf => ⟨fun r hr => ?_, hf.tail⟩
  have h := hf.head r hr
  unfold need at h ⊢
  rw [room_of_no_op (hn r hr)] at h ⊢
  exact h

/-- The read of a MODIFY is over, and its write begins (R31). -/
theorem beginModifyWrite_moves {a : Access} (hp : p → Sound s) (ha : s.bus.access = some a) (hr : s.head a.window = some r)
    {addr k o : Word} {ret : Bool} (hop : r.op? = some (.modify addr k o ret)) (hk : a.kind = .read) (width : Width)
    (hw : width = (s.window a.window).profile.width) (v value : Word) :
    Moves p s (s.beginModifyWrite a (if ret then r.append (unitBytes width v) else r) value) := by
  have hl : Alike r (if ret then r.append (unitBytes width v) else r) := by split <;> exact ⟨rfl, rfl, rfl, rfl, rfl, rfl⟩
  obtain ⟨b, hb, ha'⟩ : ∃ b, (s.beginModifyWrite a (if ret then r.append (unitBytes width v) else r) value).bus.access = some b ∧
      b.window = a.window ∧ b.kind = .write :=
    ⟨_, (congrArg BusEngine.access (setHead_frame ..).2.2.1).trans (begin_access ..), rfl, rfl⟩
  have hread : s.writing a.window = false := by simp [State.writing, ha, hk]
  have hwrite : (s.beginModifyWrite a (if ret then r.append (unitBytes width v) else r) value).writing a.window = true := by
    simp [State.writing, hb, ha']
  refine .rehead hp (unit_rehead hr hl ⟨rfl, rfl, rfl⟩) (fun hc => soundRehead_of_access (hp hc) ha hr hl (by simp [State.beginModifyWrite])
    fun c hc => ?_) (fun _ => own_of_access ha) (fun _ h => ?_) (messages_of_frame (by simp) (by simp) (by simp))
  · rw [hb] at hc; rw [← Option.some.inj hc]; exact ha'.1
  · rw [← hw] at h ⊢
    rw [hread] at h
    refine le_trans ?_ h
    rw [show State.writing _ a.window = true from hwrite]
    refine need_same_op hop (by split <;> exact ⟨rfl, rfl⟩) ?_
    cases ret <;> simp [Op.room, Record.append, length_unitBytes]

theorem takeUnit_moves {a : Access} (hp : p → Sound s) (ha : s.bus.access = some a) (v : Word) : Moves p s (s.takeUnit a v) := by
  unfold State.takeUnit
  dsimp only
  split
  · rename_i hr
    exact dropAccess_moves hp ha fun r h => by rw [hr] at h; cases h
  rename_i r hr
  split
  · rename_i hop
    exact dropAccess_moves hp ha fun q h => by rw [← Option.some.inj (hr.symm.trans h)]; exact hop
  · exact beginModifyWrite_moves hp ha hr ‹_› ‹_› _ rfl v _
  · rename_i op hop _
    have hl := alike_accessed r op (s.window a.window).profile.width v
    by_cases hf : ∃ reason detail, (r.accessed op (s.window a.window).profile.width v).2 = .failed reason detail
    · obtain ⟨reason, detail, e⟩ := hf
      rw [e]
      refine endAccess_failed_moves hp ha hr hl reason detail _ _ ?_
      rcases need_accessed hop (s.window a.window).profile.width (s.writing a.window) v with h | ⟨-, h⟩
      · exact (Nat.le_add_right _ _).trans h
      · exact h
    · refine endAccess_moves hp ha hr hl (fun reason detail e => hf ⟨reason, detail, e⟩) _ _ ?_
      exact (need_accessed hop _ _ v).resolve_right fun h => hf h.1

theorem completePin_moves {a : Access} (hp : p → Sound s) (ha : s.bus.access = some a) (strobe : Nat) (data : Word) :
    Moves p s (s.completePin a strobe data) := by
  unfold State.completePin
  dsimp only
  have h : ∀ n held, Moves p s { (s.reach n).startRecovery a.window with bus.dHeld := held } := fun _ _ => .frame hp rfl rfl
  exact (h _ _).trans id (takeUnit_moves (h _ _).sound ha _)

theorem completeScratch_moves {a : Access} (hp : p → Sound s) (ha : s.bus.access = some a) : Moves p s (s.completeScratch a) := by
  unfold State.completeScratch
  dsimp only
  split
  · exact (reach_moves hp _).trans id (takeUnit_moves (reach_moves hp _).sound ha _)
  · generalize scratchWriteUnit _ _ _ _ = m
    have h : Moves p s { (s.reach (a.start + 2)) with bus.scratch := m } := .frame hp rfl rfl
    exact h.trans id (takeUnit_moves h.sound ha _)

/-- What a timed-out access does to its transaction once its ticks have passed (R96). -/
def failTimedOut (t : State) (a : Access) : State :=
  match t.head a.window with
  | none => { t with bus.access := none }
  | some r =>
    match r.op? with
    | none => { t with bus.access := none }
    | some op => t.endAccess a.window r.opIndex r.unitIndex r (.failed .readyTimeout (r.timeoutDetail op a.kind))

theorem failTimedOut_moves {a : Access} (hp : p → Sound s) (ha : s.bus.access = some a) : Moves p s (failTimedOut s a) := by
  unfold failTimedOut
  split
  · rename_i hr
    exact dropAccess_moves hp ha fun r h => by rw [hr] at h; cases h
  rename_i r hr
  split
  · rename_i hop
    exact dropAccess_moves hp ha fun q h => by rw [← Option.some.inj (hr.symm.trans h)]; exact hop
  · exact endAccess_failed_moves hp ha hr ⟨rfl, rfl, rfl, rfl, rfl, rfl⟩ _ _ _ _ (Nat.le_add_right _ _)

theorem timeoutPin_eq (s : State) (a : Access) :
    ∃ t, holds t = holds s ∧ messages t = messages s ∧ s.timeoutPin a = failTimedOut t a := by
  refine ⟨_, ?_, ?_, rfl⟩ <;> cases a.kind <;> rfl

theorem timeoutPin_moves {a : Access} (hp : p → Sound s) (ha : s.bus.access = some a) : Moves p s (s.timeoutPin a) := by
  obtain ⟨t, ht, hm, e⟩ := timeoutPin_eq s a
  have hmove : Moves p s t := .frame hp ht hm
  rw [e]
  refine hmove.trans id (failTimedOut_moves hmove.sound ?_)
  simp only [holds, Prod.mk.injEq] at ht
  rw [ht.2.2.2.1]; exact ha

end

end Sys2Proof.Records
end

section
namespace Sys2Proof.Records

open Sys2Proof Sys2Proof.Machine

/-! ## The Scheduler -/

section
variable {p : Prop} {s : State} {w : Fin 6} {r : Record}

/-- A window chosen has a head that is READY, or QUEUED with its window ENABLED (R66). -/
theorem choice_spec (h : s.choice = some w) (hr : s.head w = some r) :
    r.state = .ready ∨ (r.state = .queued ∧ (s.window w).state = .enabled) := by
  obtain ⟨g, -, hg⟩ := List.exists_of_findSome?_eq_some h
  have hgroup : s.group w = some g := by simpa using List.find?_some hg
  unfold State.group at hgroup
  simp only [hr] at hgroup
  split at hgroup
  · exact .inl ‹_›
  · split at hgroup
    · rename_i hst hc
      simp only [Bool.and_eq_true, decide_eq_true_eq] at hc
      exact .inr ⟨hst, hc.1⟩
    · cases hgroup
  · cases hgroup
  · cases hgroup
  · cases hgroup

/-- The candidate chosen becomes RUNNING, and the grant names its window (R69). -/
theorem granted_moves {t : State} (hp : p → Sound s) (hr : s.head w = some r) (hg : s.sch.grant = none)
    (hcand : r.state = .ready ∨ (r.state = .queued ∧ (s.window w).state = .enabled))
    (ht : t.win = s.win ∧ t.epoch = s.epoch ∧ t.rpt = s.rpt ∧ t.dsp = s.dsp ∧ t.lnk = s.lnk) (hgt : t.sch.grant = some w)
    (hbus : t.bus.access = s.bus.access) :
    Moves p s (t.setHead w { r with state := .running }) ∧ (p → AtBoundary (t.setHead w { r with state := .running }) w) := by
  obtain ⟨hwin, hepoch, hrpt, hdsp, hlnk⟩ := ht
  have hnone : p → s.bus.access = none := fun hc => Option.eq_none_iff_forall_ne_some.mpr fun a ha => by
    have := (hp hc).access a ha
    rw [hg] at this
    cases this
  have hre : Rehead s (t.setHead w { r with state := .running }) w r { r with state := .running } := by
    refine ⟨hr, ?_, by simp [hepoch], by simp [hrpt], rfl⟩
    unfold State.setHead State.setQueue State.setWindow
    simp only [queue_eq, window_congr hwin, hwin]
    split <;> simp [hwin]
  refine ⟨.rehead hp hre (fun hc => ?_) (fun _ => .inl (by simp [hbus])) (fun _ h => ?_)
    (messages_of_frame (by simp [hdsp]) (by simp [hrpt]) (by simp [hlnk])), fun hc => ⟨by simp [hgt], by simp [hbus, hnone hc]⟩⟩
  · obtain ⟨hrec, -, -, hf⟩ := ((hp hc).window w).of_head hr
    refine ⟨rfl, ⟨hrec.1, ?_, by simp⟩, by simp [hgt], fun v hv => by simp [hgt, hg, Ne.symm hv], fun e => ?_, ?_, by simp⟩
    · rw [hrec.2.1]; rcases hcand with h | ⟨h, -⟩ <;> simp [h]
    · rcases hcand with h | ⟨-, h⟩
      · rw [hf e] at h; cases h
      · rw [e] at h; cases h
    · simp [hbus, hnone hc]
  · have hw : (t.setHead w { r with state := .running }).writing w = s.writing w := by simp [State.writing, hbus]
    rw [hw]; exact h

theorem grantTo_moves (hp : p → Sound s) (hg : s.sch.grant = none)
    (hcand : ∀ r, s.head w = some r → r.state = .ready ∨ (r.state = .queued ∧ (s.window w).state = .enabled)) (starts : Bool) :
    Moves p s (s.grantTo starts w) := by
  unfold State.grantTo
  split
  · exact .refl hp
  · rename_i r hr
    obtain ⟨h, hb⟩ := granted_moves (t := { s with sch.grant := some w, sch.pointer := w, sch.slice := 0, bus.prevUnit := none }) hp hr hg
      (hcand r hr) ⟨rfl, rfl, rfl, rfl, rfl⟩ rfl rfl
    exact h.trans id (settle_moves h.sound hb starts (by simp))

theorem makeChoice_moves (hp : p → Sound s) (starts : Bool) : Moves p s (s.makeChoice starts) := by
  unfold State.makeChoice
  split
  · rename_i hi
    have hg : s.sch.grant = none := by
      simp only [Bool.and_eq_true, State.engineIdle, decide_eq_true_eq] at hi
      exact hi.1
    split
    · rename_i w hw
      have h := reach_moves hp (s.spacedFrom w)
      exact h.trans id (grantTo_moves h.sound hg (fun r hr => choice_spec hw hr) starts)
    · exact .refl hp
  · exact .refl hp

theorem beginWaiting_moves (hp : p → Sound s) (w : Fin 6) : Moves p s (s.beginWaiting w) := by
  unfold State.beginWaiting
  split
  · exact .refl hp
  · split
    · rename_i v r hrun hc
      simp only [Bool.and_eq_true, decide_eq_true_eq] at hc
      obtain ⟨⟨rfl, ha⟩, -⟩ := hc
      exact beginOrWait_moves hp fun _ => ⟨(running_spec hrun).1, ha⟩
    · exact .refl hp

theorem endRecovery_moves (hp : p → Sound s) (w : Fin 6) : Moves p s (s.endRecovery w) := by
  unfold State.endRecovery
  split
  · exact beginWaiting_moves hp w
  · exact (reach_moves hp _).trans id (beginWaiting_moves (reach_moves hp _).sound w)

theorem parkTimer_spec {op : Op} {d : Nat} (h : s.parkTimer w = some (r, op, d)) : s.head w = some r ∧ r.state = .parked := by
  unfold State.parkTimer at h
  split at h
  · cases h
  · split at h
    · split at h
      · obtain ⟨rfl, -⟩ := Prod.mk.inj (Option.some.inj h); exact ⟨‹_›, ‹_›⟩
      · obtain ⟨rfl, -⟩ := Prod.mk.inj (Option.some.inj h); exact ⟨‹_›, ‹_›⟩
      · cases h
    · cases h

theorem expirePoll_moves (hp : p → Sound s) (w : Fin 6) : Moves p s (s.expirePoll w) := by
  unfold State.expirePoll
  split
  · rename_i h
    obtain ⟨hr, hst⟩ := parkTimer_spec h
    exact (reach_moves hp _).trans id (.ready (reach_moves hp _).sound hr hst (.inl rfl))
  · exact .refl hp

theorem expireDelay_moves (hp : p → Sound s) (w : Fin 6) : Moves p s (s.expireDelay w) := by
  unfold State.expireDelay
  split
  · rename_i r _ d h
    obtain ⟨hr, hst⟩ := parkTimer_spec h
    have ht : Moves p s ((s.reach d).endDelay w d) := .frame hp rfl rfl
    dsimp only
    split
    · exact ht.trans id (.doneParked ht.sound hr hst)
    · exact ht.trans id (.ready ht.sound hr hst (.inr rfl))
  · exact .refl hp

theorem dropWake_moves (hp : p → Sound s) (r : Record) : Moves p s (s.dropWake r) :=
  .lines hp (by simp) (by simp) (by simp) (by simp) (by simp) (by simp) (by simp)

theorem expireWait_moves (hp : p → Sound s) (w : Fin 6) : Moves p s (s.expireWait w) := by
  unfold State.expireWait
  split
  · rename_i r _ timeout d h
    obtain ⟨hr, hst⟩ := parkTimer_spec h
    have ht : Moves p s ((s.reach d).dropWake r) := (reach_moves hp d).trans id (dropWake_moves (reach_moves hp d).sound r)
    have hhead : ((s.reach d).dropWake r).head w = some r := by rw [head_eq, window_congr (s := s) (by simp)]; exact hr
    exact ht.trans id (.failParked ht.sound hhead hst _ _)
  · exact .refl hp

/-! ## Accesses -/

theorem pinAccess_spec {a : Access} (h : s.pinAccess = some a) : s.bus.access = some a := by
  unfold State.pinAccess at h
  split at h
  · split at h
    · rw [← h]; assumption
    · cases h
  · cases h

theorem scratchAccess_spec {a : Access} (h : s.scratchAccess = some a) : s.bus.access = some a := by
  unfold State.scratchAccess at h
  split at h
  · split at h
    · rw [← h]; assumption
    · cases h
  · cases h

theorem finishPin_moves (hp : p → Sound s) (data : Word) (rdy : List Bool) : Moves p s (s.finishPin data rdy) := by
  unfold State.finishPin
  split
  · exact .refl hp
  · split
    · exact .refl hp
    · exact completePin_moves hp (pinAccess_spec ‹_›) _ data

theorem finishTimeout_moves (hp : p → Sound s) : Moves p s s.finishTimeout := by
  unfold State.finishTimeout
  split
  · exact .refl hp
  · split
    · exact timeoutPin_moves hp (pinAccess_spec ‹_›)
    · exact .refl hp

theorem finishScratch_moves (hp : p → Sound s) : Moves p s s.finishScratch := by
  unfold State.finishScratch
  split
  · exact .refl hp
  · exact completeScratch_moves hp (scratchAccess_spec ‹_›)

/-! ## Bus sharing -/

theorem endRelease_moves (hp : p → Sound s) : Moves p s s.endRelease := .frame hp rfl rfl

theorem request_moves (hp : p → Sound s) : Moves p s s.request :=
  have h : Moves p s { s with breq := true } := .frame hp rfl rfl
  h.trans id (answerRequest_moves h.sound)

theorem withdrawRequest_moves (hp : p → Sound s) : Moves p s s.withdrawRequest := by
  have h : Moves p s { s with breq := false } := .frame hp rfl rfl
  unfold State.withdrawRequest
  dsimp only
  split
  · exact h.trans id (endRelease_moves h.sound)
  · exact h

theorem assertBgnt_moves (hp : p → Sound s) : Moves p s s.assertBgnt := by
  unfold State.assertBgnt
  split
  · exact .refl hp
  · split
    · exact .frame hp rfl rfl
    · exact .refl hp

theorem raiseOverrun_moves (hp : p → Sound s) (limit : Nat) (window : Option (Fin 6)) : Moves p s (s.raiseOverrun limit window) := by
  unfold State.raiseOverrun
  split <;> exact .frame hp rfl rfl

theorem overrunRelease_moves (hp : p → Sound s) : Moves p s s.overrunRelease := by
  unfold State.overrunRelease
  split
  · exact .refl hp
  · split
    · exact .refl hp
    · split
      · exact .refl hp
      · have h : ∀ u : State, holds u = holds s → messages u = messages s → ∀ limit window, Moves p s (u.raiseOverrun limit window) :=
          fun u hu hm _ _ => (Moves.frame hp hu hm).trans id (raiseOverrun_moves (Moves.frame hp hu hm).sound _ _)
        refine h _ ?_ ?_ _ _ <;> rfl

theorem sampleInput_moves (hp : p → Sound s) (l : Fin 8) (level : Bool) : Moves p s (s.sampleInput l level) :=
  .lines hp (by simp) (by simp) (by simp) (by simp) (by simp) (by simp) (by simp)

/-! ## The Reporter -/

theorem length_completionReport (serial : Word) (h : r.data.length ≤ 192) :
    (Report.bytes { serial := serial, content := r.completionReport }).length ≤ 207 := by
  have hout : (outcomeBytes r.outcome).length = 2 := by unfold outcomeBytes; split <;> rfl
  simp [Report.bytes, ReportContent.fields, Record.completionReport, wordBytes, natBytes, hout]
  omega

theorem length_replyReport (serial : Word) {x : Reply} (h : x.body.length ≤ 88) :
    (Report.bytes { serial := serial, content := .reply x }).length ≤ 207 := by
  simp [Report.bytes, ReportContent.fields, wordBytes]
  omega

theorem MessagesFit.push {c : ReportContent} (h : MessagesFit s) (hc : (Report.bytes { serial := s.rpt.serial, content := c }).length ≤ 207) :
    MessagesFit (s.pushReport c) :=
  ⟨h.reply, by simpa [State.pushReport, or_imp, forall_and] using ⟨h.queue, hc⟩, h.replay⟩

theorem pushReport_moves (hp : p → Sound s) {c : ReportContent} (hc : (Report.bytes { serial := s.rpt.serial, content := c }).length ≤ 207) :
    Moves p s (s.pushReport c) := .same hp rfl fun h => h.push hc

theorem admitReply_moves (hp : p → Sound s) : Moves p s s.admitReply := by
  unfold State.admitReply
  split
  · exact .refl hp
  · rename_i x hx
    refine .same hp rfl fun h => ?_
    have hpush : MessagesFit (s.countStarvation.pushReport (.reply x)) :=
      MessagesFit.push ⟨h.reply, h.queue, h.replay⟩ (length_replyReport _ (h.reply x hx))
    exact ⟨by simp, hpush.queue, hpush.replay⟩

theorem admitOverrun_moves (hp : p → Sound s) : Moves p s s.admitOverrun := by
  unfold State.admitOverrun
  split
  · exact .refl hp
  · rename_i o _
    refine .same hp rfl fun h => ?_
    have hpush : MessagesFit (s.countStarvation.pushReport (.shareOverrun o.limit o.window o.count)) :=
      MessagesFit.push ⟨h.reply, h.queue, h.replay⟩ (by simp [Report.bytes, ReportContent.fields, wordBytes, natBytes])
    exact ⟨hpush.reply, hpush.queue, hpush.replay⟩

theorem admitAttention_moves (hp : p → Sound s) : Moves p s s.admitAttention := by
  unfold State.admitAttention
  split
  · exact .refl hp
  · rename_i l _
    have h : Moves p s (s.pushReport ((s.line l).notice l)) :=
      pushReport_moves hp (by simp [Report.bytes, ReportContent.fields, Line.notice, wordBytes])
    exact h.trans id (.frame h.sound (by simp [holds]) (by simp [messages]))

/-- The backlog's head is reported and freed (R11, R169). -/
theorem admitCompletion_moves (hp : p → Sound s) : Moves p s s.admitCompletion := by
  unfold State.admitCompletion
  split
  · exact .refl hp
  · rename_i r rest hb
    have hlive : List.Sublist (s.busSide ++ rest) s.live := by
      unfold State.live; rw [hb]; exact (List.sublist_cons_self r rest).append_left _
    refine ⟨⟨rfl, fun _ => rfl, fun _ => .refl _, hlive.length_le, fun hc => ?_, fun _ => (hlive.map _).subperm, fun _ _ ha => ha⟩,
      fun _ hf => ⟨hf.window, fun q hq => hf.backlog q (by rw [hb]; exact List.mem_cons_of_mem _ hq), ?_⟩⟩
    · obtain ⟨hw, ha, hbl⟩ := hp hc
      exact ⟨hw, ha, fun q hq => hbl q (by rw [hb]; exact List.mem_cons_of_mem _ hq)⟩
    · have hm := hf.messages
      have := MessagesFit.push (s := s.countStarvation) (c := r.completionReport) ⟨hm.reply, hm.queue, hm.replay⟩
        (length_completionReport _ (hf.backlog r (by rw [hb]; exact List.mem_cons_self)))
      exact ⟨this.reply, this.queue, this.replay⟩

theorem admitOne_moves (hp : p → Sound s) : Moves p s s.admitOne := by
  unfold State.admitOne
  split
  · split
    · exact admitReply_moves hp
    · exact admitCompletion_moves hp
    · exact admitOverrun_moves hp
    · exact admitAttention_moves hp
    · exact .refl hp
  · exact .refl hp

end

end Sys2Proof.Records
end

section
namespace Sys2Proof.Records

open Sys2Proof Sys2Proof.Machine

/-! ## The Link Controller -/

/-- The reports in the replay buffer. -/
def replayed (s : State) : List Report := s.lnk.replay.map ReplayFrame.report

theorem report_markSent (serial : Word) (f : Sent → Sent) (q : List ReplayFrame) :
    (markSent serial f q).map ReplayFrame.report = q.map ReplayFrame.report := by
  simp only [markSent, List.map_map]
  refine List.map_congr_left fun x _ => ?_
  simp only [Function.comp]
  split <;> rfl

theorem report_renumber (n : Nat) (q : List ReplayFrame) : (renumber n q).map ReplayFrame.report = q.map ReplayFrame.report := by
  induction q generalizing n with
  | nil => rfl
  | cons x q ih => simp [renumber, ih]

@[simp] theorem replayed_sendData (s : State) (x : ReplayFrame) : replayed (s.sendData x) = replayed s := by
  unfold State.sendData replayed
  dsimp only
  split
  · simp only [report_markSent]; rfl
  · rfl
  · rfl

@[simp] theorem replayed_transmit (s : State) : replayed s.transmit = replayed s := by
  have hup : replayed s.transmitUp = replayed s := by
    unfold State.transmitUp
    split
    · rfl
    split
    · exact replayed_sendData ..
    split
    · exact replayed_sendData ..
    split <;> rfl
  unfold State.transmit
  split
  · rfl
  split
  · rfl
  split
  · exact hup
  all_goals split <;> rfl

@[simp] theorem replayed_transmitAfterTakes (s : State) : replayed s.transmitAfterTakes = replayed s := by
  unfold State.transmitAfterTakes
  split
  · rfl
  · exact replayed_transmit s

@[simp] theorem replayed_restartTimer (s : State) : replayed s.restartTimer = replayed s := by
  unfold State.restartTimer
  split <;> rfl

@[simp] theorem replayed_sortData (s : State) (seq : SeqNum) (msg : Message) : replayed (s.sortData seq msg) = replayed s := by
  unfold State.sortData
  dsimp only
  repeat' split
  all_goals rfl

theorem replayed_acknowledge (s : State) (a : SeqNum) : (replayed (s.acknowledge a)).Sublist (replayed s) := by
  unfold replayed
  rw [acknowledge_replay]
  exact (List.drop_sublist ..).map _

theorem replayed_negative (s : State) (n : SeqNum) : (replayed (s.negative n)).Sublist (replayed s) := by
  have hback : ∀ t : State, replayed (t.goBack n) = replayed t := fun t => replayed_restartTimer _
  unfold State.negative
  dsimp only
  split
  · exact replayed_acknowledge s n
  · split
    · rw [hback]; exact replayed_acknowledge s n
    · exact replayed_acknowledge s n

@[simp] theorem replayed_startAnnouncing (s : State) : replayed s.startAnnouncing = replayed s := replayed_transmit _

@[simp] theorem replayed_frameSent (s : State) (kind : TxKind) : replayed (s.frameSent kind) = replayed s := by
  unfold State.frameSent
  split
  · rfl
  · dsimp only
    split <;> simp [replayed, State.startTimer, report_markSent]
  all_goals rfl

@[simp] theorem replay_damaged (k : Link) : k.damaged.replay = k.replay := by
  unfold Link.damaged
  split <;> rfl

section
variable {p : Prop} {s : State}

/-- The Link Controller moves no record, and what it keeps for repetition is of what it kept before. -/
theorem Moves.link {t : State} (hp : p → Sound s) (hwin : t.win = s.win) (hepoch : t.epoch = s.epoch) (hsch : t.sch = s.sch)
    (hbus : t.bus = s.bus) (hdsp : t.dsp = s.dsp) (hrpt : t.rpt = s.rpt) (hr : (replayed t).Sublist (replayed s)) : Moves p s t :=
  .same hp (by simp [holds, *]) fun h => ⟨by rw [hdsp]; exact h.reply, by rw [hrpt]; exact h.queue, fun r hm => h.replay r (hr.subset hm)⟩

theorem startAnnouncing_moves (hp : p → Sound s) : Moves p s s.startAnnouncing :=
  .link hp (by simp) (by simp) (by simp) (by simp) (by simp) (by simp) (by simp)

theorem takeGap_moves (hp : p → Sound s) : Moves p s s.takeGap := by
  refine .link hp (by simp) (by simp) (by simp) (by simp) (by simp) (by simp) ?_
  unfold State.takeGap
  split
  · exact .refl _
  · dsimp only
    rw [replayed_transmit]
    simp [replayed]

theorem takeDamaged_moves (hp : p → Sound s) : Moves p s s.takeDamaged := by
  refine .link hp (by simp) (by simp) (by simp) (by simp) (by simp) (by simp) ?_
  unfold State.takeDamaged
  rw [replayed_transmit]
  simp [replayed]

theorem takeData_moves (hp : p → Sound s) (g : List Byte) : Moves p s (s.takeData g) := by
  refine .link hp (by simp) (by simp) (by simp) (by simp) (by simp) (by simp) ?_
  unfold State.takeData
  split
  · rw [replayed_transmitAfterTakes, replayed_sortData]; exact replayed_acknowledge s _
  · exact .refl _

theorem takeAck_moves (hp : p → Sound s) (g : List Byte) : Moves p s (s.takeAck g) := by
  refine .link hp (by simp) (by simp) (by simp) (by simp) (by simp) (by simp) ?_
  unfold State.takeAck
  split
  · rw [replayed_transmit]; exact replayed_acknowledge s _
  · exact .refl _

theorem takeNak_moves (hp : p → Sound s) (g : List Byte) : Moves p s (s.takeNak g) := by
  refine .link hp (by simp) (by simp) (by simp) (by simp) (by simp) (by simp) ?_
  unfold State.takeNak
  split
  · rw [replayed_transmit]; exact replayed_negative s _
  · exact .refl _

theorem takeResync_moves (hp : p → Sound s) : Moves p s s.takeResync := by
  refine .link hp (by simp) (by simp) (by simp) (by simp) (by simp) (by simp) ?_
  unfold State.takeResync
  rw [replayed_transmit]
  unfold replayed Link.resynchronise
  rw [report_renumber]

theorem requestAck_moves (hp : p → Sound s) : Moves p s s.requestAck := by
  refine .link hp (by simp) (by simp) (by simp) (by simp) (by simp) (by simp) ?_
  unfold State.requestAck
  split
  · rw [replayed_transmit]; exact .refl _
  · exact .refl _
  · exact .refl _

theorem endFrame_moves (hp : p → Sound s) : Moves p s s.endFrame := by
  refine .link hp (by simp) (by simp) (by simp) (by simp) (by simp) (by simp) ?_
  unfold State.endFrame
  split
  · exact .refl _
  · rw [replayed_transmit, replayed_frameSent]; exact .refl _

theorem expireAnnounce_moves (hp : p → Sound s) : Moves p s s.expireAnnounce := by
  refine .link hp (by simp) (by simp) (by simp) (by simp) (by simp) (by simp) ?_
  unfold State.expireAnnounce
  split
  · exact .refl _
  · split
    · exact .refl _
    · rw [replayed_startAnnouncing]; exact .refl _

theorem expireRetransmission_moves (hp : p → Sound s) : Moves p s s.expireRetransmission := by
  refine .link hp (by simp) (by simp) (by simp) (by simp) (by simp) (by simp) ?_
  have hback : ∀ (t : State) (n : SeqNum), replayed (t.goBack n).transmit = replayed t := fun t n => by
    rw [replayed_transmit]; exact replayed_restartTimer _
  unfold State.expireRetransmission
  dsimp only
  split
  · exact .refl _
  · split
    · split
      · split
        · exact .refl _
        · rw [hback]; exact .refl _
      · rw [replayed_startAnnouncing]; exact .refl _
    · exact .refl _

theorem receive_moves (hp : p → Sound s) (b : Byte) : Moves p s { s with lnk := s.lnk.receive b s.now } := by
  refine .link hp rfl rfl rfl rfl rfl rfl ?_
  have h : (s.lnk.receive b s.now).replay = s.lnk.replay := by
    unfold Link.receive
    dsimp only
    repeat' split
    all_goals rfl
  unfold replayed
  rw [h]

theorem thenTransmit_moves {t : State} (h : Moves p s t) : Moves p s t.transmit :=
  h.trans id (.link h.sound (by simp) (by simp) (by simp) (by simp) (by simp) (by simp) (by simp))

/-- The head report goes over into the replay buffer (R165). -/
theorem takeReport_moves (hp : p → Sound s) : Moves p s s.takeReport := by
  unfold State.takeReport
  split
  · split
    · exact .refl hp
    · rename_i r rest hq
      refine thenTransmit_moves (.same hp rfl fun hm => ⟨hm.reply, fun x hx => ?_, fun x hx => ?_⟩)
      · exact hm.queue x (by rw [hq]; exact List.mem_cons_of_mem _ hx)
      · rw [List.map_append, List.mem_append] at hx
        rcases hx with hx | hx
        · exact hm.replay x hx
        · rw [List.mem_singleton.mp hx]; exact hm.queue r (by rw [hq]; exact List.mem_cons_self)
  · exact .refl hp

/-- A frame of one kind is handed on. -/
theorem takeFrame_moves (hp : p → Sound s) (wanted : List Byte → Bool) {effect : State → List Byte → State}
    (he : ∀ (t : State) g, (p → Sound t) → Moves p t (effect t g)) : Moves p s (s.takeFrame wanted effect) := by
  unfold State.takeFrame
  split
  · exact .refl hp
  · split
    · have h : Moves p s { s with lnk.gathered := none } := .frame hp rfl rfl
      exact h.trans id (he _ _ h.sound)
    · exact .refl hp

theorem checkFrame_moves (hp : p → Sound s) : Moves p s s.checkFrame := by
  refine takeFrame_moves hp _ fun t g hs => ?_
  split
  · exact takeDamaged_moves hs
  split
  · exact takeData_moves hs g
  split
  · exact takeAck_moves hs g
  split
  · exact takeNak_moves hs g
  split
  · exact takeResync_moves hs
  · exact .refl hs

end

end Sys2Proof.Records
end

section
namespace Sys2Proof.Records

open Sys2Proof Sys2Proof.Machine

/-! ## Records that leave a queue together -/

/-- The record has ended, with its tag and its result data as they were (R8). -/
def EndOf (r r' : Record) : Prop := r'.tag = r.tag ∧ r'.data = r.data ∧ r'.state = .completing ∧ r'.outcome.isSome = true

theorem endOf_endCancelled (r : Record) (cause : CancelCause) : EndOf r (r.endCancelled cause) := ⟨rfl, rfl, rfl, rfl⟩

theorem endOf_map_endCancelled (q : List Record) (cause : CancelCause) :
    List.Forall₂ EndOf q (q.map fun r => r.endCancelled cause) :=
  List.forall₂_map_right_iff.mpr (List.forall₂_same.mpr fun r _ => endOf_endCancelled r cause)

theorem tags_of_endOf {q gone : List Record} (h : List.Forall₂ EndOf q gone) : gone.map Record.tag = q.map Record.tag := by
  induction h with
  | nil => rfl
  | cons he _ ih => rw [List.map_cons, List.map_cons, ih, he.1]

theorem mem_of_endOf {q gone : List Record} (h : List.Forall₂ EndOf q gone) {r' : Record} (hr : r' ∈ gone) : ∃ r ∈ q, EndOf r r' := by
  induction h with
  | nil => cases hr
  | cons he _ ih =>
    rcases List.mem_cons.mp hr with rfl | hr
    · exact ⟨_, List.mem_cons_self, he⟩
    · obtain ⟨r, hr, he⟩ := ih hr
      exact ⟨r, List.mem_cons_of_mem _ hr, he⟩

section
variable {p : Prop} {s t : State} {w : Fin 6}

theorem data_le_of_mem {x : Window} {b : Bool} (h : WindowFits x b) {r : Record} (hr : r ∈ x.queue) : r.data.length ≤ 192 := by
  cases hq : x.queue with
  | nil => rw [hq] at hr; cases hr
  | cons q rest =>
    rw [hq] at hr
    rcases List.mem_cons.mp hr with rfl | hr
    · exact data_le_of_need (h.head r (by rw [hq]; rfl))
    · exact data_le_of_need (h.tail r (by rw [hq]; exact hr))

/-- A queue is emptied, all its records ended. -/
structure Empties (s t : State) (w : Fin 6) (gone : List Record) : Prop where
  others : ∀ v, v ≠ w → t.window v = s.window v
  profile : (t.window w).profile = (s.window w).profile
  epoch : t.epoch = s.epoch
  backlog : t.rpt.backlog = s.rpt.backlog ++ gone
  queue : t.queue w = []
  ended : List.Forall₂ EndOf (s.queue w) gone
  access : t.bus.access = s.bus.access

theorem Empties.moves {gone : List Record} (hp : p → Sound s) (h : Empties s t w gone) (hm : messages t = messages s)
    (hg : p → t.sch.grant ≠ some w ∧ ∀ v, v ≠ w → (t.sch.grant = some v ↔ s.sch.grant = some v))
    (ha : p → ∀ a, s.bus.access = some a → t.sch.grant = some a.window) : Moves p s t := by
  have hstep : Step s t w gone :=
    ⟨h.others, h.profile, h.epoch, h.backlog, by rw [h.queue]; exact List.nil_sublist _, by rw [h.queue, h.ended.length_eq]; simp⟩
  have hq : (t.window w).queue = [] := h.queue
  refine ⟨hstep.goes hp fun hc => ⟨?_, .of_queued (by simp [hq]) (hg hc).1 fun _ => hq, (hg hc).2, by rw [h.access]; exact ha hc,
    fun r hr => ?_, fun _ _ => by simp [h.queue]⟩, fun _ hf => hstep.fits hf ⟨.inl h.access, ⟨by simp [hq], by simp [hq]⟩, fun r hr => ?_⟩
      (messagesFit_of_eq hm hf.messages)⟩
  · rw [h.queue, List.nil_append, tags_of_endOf h.ended]
  · obtain ⟨_, -, -, -, hend⟩ := mem_of_endOf h.ended hr
    exact hend
  · obtain ⟨q, hq, -, hdata, -⟩ := mem_of_endOf h.ended hr
    rw [hdata]
    exact data_le_of_mem (hf.window w) hq

/-! ## FLUSH and CLEAR FAULT -/

/-- A FLUSH ends the whole queue, or all but a RUNNING head whose access is in progress (R113). -/
theorem flush_cases (q : List Record) (busy : Bool) :
    (flushKept q busy = [] ∧ (∀ r, q.head? = some r → r.state = .running → busy = false) ∧ List.Forall₂ EndOf q (flushRemoved q busy)) ∨
    ∃ r rest c, q = r :: rest ∧ r.state = .running ∧ flushKept q busy = [{ r with abort := some c }] ∧
      flushRemoved q busy = rest.map fun x => x.endCancelled .byFlush := by
  cases q with
  | nil => exact .inl ⟨rfl, by simp, .nil⟩
  | cons r rest =>
    have hrest := endOf_map_endCancelled rest .byFlush
    by_cases hst : r.state = .running
    · cases busy with
      | true => exact .inr ⟨r, rest, _, rfl, hst, by simp [flushKept, hst]; rfl, by simp [flushRemoved, hst]⟩
      | false =>
        refine .inl ⟨by simp [flushKept], by simp, ?_⟩
        simp only [flushRemoved, hst]
        exact .cons ⟨rfl, rfl, rfl, rfl⟩ hrest
    · refine .inl ⟨by simp [flushKept, hst], by simp [hst], ?_⟩
      simp only [flushRemoved, hst]
      exact .cons (endOf_endCancelled r _) hrest

/-- FLUSH leaves the head alone, marked, while its access is in progress. -/
theorem flushKept_moves {r : Record} {rest : List Record} {c : CancelCause} (hp : p → Sound s) (hq : s.queue w = r :: rest)
    (hst : r.state = .running) (hw : t.win = (s.setQueue w [{ r with abort := some c }]).win) (hepoch : t.epoch = s.epoch)
    (hsch : t.sch = s.sch) (hbus : t.bus = s.bus) (hm : messages t = messages s)
    (hb : t.rpt.backlog = s.rpt.backlog ++ rest.map fun x => x.endCancelled .byFlush) : Moves p s t := by
  have hwin : t.window w = { s.window w with queue := [{ r with abort := some c }] } := by rw [window_congr hw, window_setQueue, if_pos rfl]
  have htq : t.queue w = [{ r with abort := some c }] := by rw [queue_eq, hwin]
  have hhead : s.head w = some r := by unfold State.head; rw [hq]; rfl
  have hrest := endOf_map_endCancelled rest .byFlush
  have hstep : Step s t w (rest.map fun x => x.endCancelled .byFlush) := by
    refine ⟨fun v hv => by rw [window_congr hw, window_setQueue, if_neg hv], by rw [hwin], hepoch, hb, ?_, ?_⟩ <;> rw [htq, hq]
    · simp
    · simp [Nat.add_comm]
  refine ⟨hstep.goes hp fun hc => ⟨?_, ?_, by simp [hsch], by rw [hbus, hsch]; exact (hp hc).access, fun y hy => ?_,
    fun _ _ => by simp [htq, hst]⟩, fun hc hf => hstep.fits hf ⟨.inl (by rw [hbus]), ?_, fun y hy => ?_⟩ (messagesFit_of_eq hm hf.messages)⟩
  · rw [htq, hq, List.map_append, tags_of_endOf hrest]
    exact .refl _
  · obtain ⟨hrec, hgr, hd, hf⟩ := ((hp hc).window w).of_head hhead
    rw [hwin, hsch]
    exact ⟨List.forall_mem_singleton.mpr hrec, by simp, by simpa using hgr, fun e => absurd e hd, by simpa using hf⟩
  · obtain ⟨_, -, -, -, hend⟩ := mem_of_endOf hrest hy
    exact hend
  · have hwr : t.writing w = s.writing w := by unfold State.writing; rw [hbus]
    rw [hwin, hwr]
    exact ⟨fun q h => by obtain rfl := Option.some.inj h; exact (hf.window w).head r hhead, by simp⟩
  · obtain ⟨x, hx, -, hdata, -⟩ := mem_of_endOf hrest hy
    have hx' : x ∈ (s.window w).queue := by rw [← queue_eq, hq]; exact List.mem_cons_of_mem _ hx
    rw [hdata]
    exact data_le_of_mem (hf.window w) hx'

/-- What a FLUSH does to a window whose head waits for nothing. -/
def flushed (s : State) (w : Fin 6) : State :=
  let u := (s.setQueue w (flushKept (s.queue w) s.bus.access.isSome)).joinBacklog (flushRemoved (s.queue w) s.bus.access.isSome)
  if flushKept (s.queue w) s.bus.access.isSome = [] then u.dropGrant w else u

theorem flushWindow_eq (s : State) (w : Fin 6) :
    s.flushWindow w = flushed s w ∨ ∃ r, s.flushWindow w = flushed (s.dropWake r) w := by
  cases hq : s.queue w with
  | nil => left; simp [State.flushWindow, flushed, hq]
  | cons r rest =>
    have hd : (s.dropWake r).queue w = s.queue w := by simp [State.queue, State.window]
    right; exact ⟨r, by simp [State.flushWindow, flushed, hq, hd]⟩

theorem flushed_moves (hp : p → Sound s) (w : Fin 6) : Moves p s (flushed s w) := by
  rcases flush_cases (s.queue w) s.bus.access.isSome with ⟨hk, hidle, hend⟩ | ⟨r, rest, c, hq, hst, hk, hrem⟩
  · have hfree : p → ∀ a, s.bus.access = some a → a.window ≠ w := by
      rintro hc a ha rfl
      obtain ⟨r, hr, hst⟩ := ((hp hc).window a.window).running.mp ((hp hc).access a ha)
      exact absurd (hidle r hr hst) (by simp [ha])
    unfold flushed
    rw [if_pos hk, hk]
    refine Empties.moves (w := w) (gone := flushRemoved (s.queue w) s.bus.access.isSome) hp
      ⟨fun v hv => ?_, ?_, by simp, by simp, by simp, hend, by simp⟩ (by simp [messages]) (fun _ => ?_) fun hc a ha => ?_
    · rw [window_congr (t := State.dropGrant _ _) (by simp : _ = (s.setQueue w []).win), window_setQueue, if_neg hv]
    · rw [window_congr (t := State.dropGrant _ _) (by simp : _ = (s.setQueue w []).win), window_setQueue, if_pos rfl]
    · rw [dropGrant_grant]
      refine ⟨by split <;> simp_all, fun v hv => ?_⟩
      split
      · rename_i e
        have e : s.sch.grant = some w := by simpa using e
        simp [e, Ne.symm hv]
      · simp
    · have hg := (hp hc).access a ha
      simp [dropGrant_grant, hg, hfree hc a ha]
  · unfold flushed
    rw [hk, hrem, if_neg (by simp)]
    exact flushKept_moves (c := c) hp hq hst (by simp) (by simp) (by simp) (by simp) (by simp [messages]) (by simp)

theorem flushWindow_moves (hp : p → Sound s) (w : Fin 6) : Moves p s (s.flushWindow w) := by
  rcases flushWindow_eq s w with e | ⟨r, e⟩ <;> rw [e]
  · exact flushed_moves hp w
  · have h : Moves p s (s.dropWake r) := .lines hp (by simp) (by simp) (by simp) (by simp) (by simp) (by simp) (by simp)
    exact h.trans id (flushed_moves h.sound w)

/-- No grant names a FAULTED window (R14, R86). -/
theorem Sound.not_granted_of_faulted (hs : Sound s) (hf : (s.window w).state = .faulted) : s.sch.grant ≠ some w := by
  intro hg
  obtain ⟨r, hr, hst⟩ := (hs.window w).running.mp hg
  rw [(hs.window w).faulted hf r (List.mem_of_head? hr)] at hst
  cases hst

theorem clearWindow_moves (hp : p → Sound s) (hf : (s.window w).state = .faulted) (discard : Bool) :
    Moves p s (s.clearWindow w discard) := by
  cases discard with
  | true =>
    have hwin : (s.clearWindow w true).window w = { s.window w with state := .enabled, queue := [] } := window_setWindow_self ..
    refine Empties.moves (w := w) (gone := (s.queue w).map fun r => r.endCancelled .byFaultDiscard) hp
      ⟨fun v hv => window_setWindow_ne s _ hv, by rw [hwin], rfl, rfl, by rw [queue_eq, hwin],
        endOf_map_endCancelled .., rfl⟩ rfl (fun hc => ⟨(hp hc).not_granted_of_faulted hf, fun _ _ => .rfl⟩) fun hc => (hp hc).access
  | false =>
    have hwin : (s.clearWindow w false).window w = { s.window w with state := .enabled } := window_setWindow_self ..
    have hq : (s.clearWindow w false).queue w = s.queue w := by rw [queue_eq, hwin]; rfl
    have hstep : Step s (s.clearWindow w false) w [] :=
      ⟨fun v hv => window_setWindow_ne s _ hv, by rw [hwin], rfl, by simp [State.clearWindow, State.setWindow],
        by rw [hq], by rw [hq]; simp⟩
    refine ⟨hstep.goes hp fun hc => ⟨by rw [hq]; simpa using List.Subperm.refl _, ?_, fun _ _ => .rfl, (hp hc).access, by simp,
      fun _ ha => by rw [hq]; exact ha w⟩, fun _ hfit => hstep.fits hfit ⟨.inl rfl, ?_, by simp⟩ (messagesFit_of_eq (s := s) rfl hfit.messages)⟩
    · have hw := (hp hc).window w
      rw [hwin]
      exact .of_queued (fun r hr => ⟨hw.records r hr, hw.faulted hf r hr⟩) ((hp hc).not_granted_of_faulted hf) (by simp)
    · rw [hwin]
      exact ⟨(hfit.window w).head, (hfit.window w).tail⟩

end

end Sys2Proof.Records
end

section
namespace Sys2Proof.Records

open Sys2Proof Sys2Proof.Machine

/-! ## CANCEL -/

section
variable {p : Prop} {s t : State} {w : Fin 6} {r : Record}

/-- `r` is the first record of the queue with its tag. -/
def FirstOf (q : List Record) (r : Record) : Prop := q.find? (fun x => decide (x.tag = r.tag)) = some r

/-- The queue without the records of a tag. -/
def without (q : List Record) (tag : Word) : List Record := q.filter fun x => decide (x.tag ≠ tag)

theorem mem_of_mem_without {q : List Record} {tag : Word} {x : Record} (h : x ∈ without q tag) : x ∈ q := List.mem_of_mem_filter h

theorem FirstOf.mem {q : List Record} (h : FirstOf q r) : r ∈ q := List.mem_of_find?_eq_some h

/-- Either the head leaves, or it stays the head. -/
theorem without_cases {q : List Record} (h : FirstOf q r) :
    (∃ rest, q = r :: rest ∧ without q r.tag = without rest r.tag) ∨
    ∃ x rest, q = x :: rest ∧ without q r.tag = x :: without rest r.tag := by
  cases q with
  | nil => cases h
  | cons x rest =>
    by_cases e : x.tag = r.tag
    · left
      refine ⟨rest, ?_, by simp [without, e]⟩
      rw [FirstOf, List.find?_cons_of_pos (by simpa using e)] at h
      rw [Option.some.inj h]
    · right
      exact ⟨x, rest, rfl, by simp [without, e]⟩

/-- The record of a tag and what is left without it are no more than there was. -/
theorem without_subperm {q : List Record} (h : r ∈ q) : (without q r.tag ++ [r]).Subperm q := by
  have hr : [r].Sublist (q.filter fun x => !decide (x.tag ≠ r.tag)) := List.singleton_sublist.mpr (by simpa using h)
  exact ((hr.append_left _).subperm).trans (List.filter_append_perm ..).subperm

theorem tags_without_subperm {q : List Record} (h : r ∈ q) {cause : CancelCause} :
    ((without q r.tag ++ [r.endCancelled cause]).map Record.tag).Subperm (q.map Record.tag) := by
  obtain ⟨l, hperm, hsub⟩ := without_subperm h
  exact ⟨l.map Record.tag, by simpa [Record.endCancelled, Record.complete] using hperm.map Record.tag, hsub.map _⟩

theorem WindowSound.without {x : Window} {g : Prop} (h : WindowSound x g) (hr : FirstOf x.queue r) (hst : r.state ≠ .running) :
    WindowSound { x with queue := without x.queue r.tag } g := by
  have hd : x.state ≠ .disabled := fun e => by have := hr.mem; simp [h.disabled e] at this
  refine ⟨fun y hy => h.records y (mem_of_mem_without hy), ?_, ?_, fun e => absurd e hd,
    fun e y hy => h.faulted e y (mem_of_mem_without hy)⟩
  all_goals rcases without_cases hr with ⟨rest, hq, he⟩ | ⟨y, rest, hq, he⟩
  all_goals
    have htail : ∀ z ∈ rest, z.state = .queued := fun z hz => h.tail z (by rw [hq]; exact hz)
    simp only [he]
  · exact fun z hz => htail z (mem_of_mem_without (List.mem_of_mem_tail hz))
  · exact fun z hz => htail z (mem_of_mem_without hz)
  · have hg : ¬g := by rw [h.running, hq]; simpa using hst
    refine iff_of_false hg ?_
    rintro ⟨z, hz, hzst⟩
    rw [htail z (mem_of_mem_without (List.mem_of_mem_head? hz))] at hzst
    cases hzst
  · rw [h.running, hq]; simp

theorem WindowFits.without {x : Window} {b : Bool} (h : WindowFits x b) (hr : FirstOf x.queue r) :
    WindowFits { x with queue := without x.queue r.tag } b := by
  rcases without_cases hr with ⟨rest, hq, he⟩ | ⟨y, rest, hq, he⟩
  all_goals have htail : ∀ z ∈ rest, need x.profile.width false z ≤ 192 := fun z hz => h.tail z (by rw [hq]; exact hz)
  · refine WindowFits.of_writing (b := false) ⟨fun z hz => ?_, fun z hz => ?_⟩ (by simp) <;> simp only [he] at hz
    · exact htail z (mem_of_mem_without (List.mem_of_mem_head? hz))
    · exact htail z (mem_of_mem_without (List.mem_of_mem_tail hz))
  · refine ⟨fun z hz => ?_, fun z hz => ?_⟩ <;> simp only [he] at hz
    · exact h.head z (by rw [hq]; exact hz)
    · exact htail z (mem_of_mem_without hz)

theorem cancelNow_moves (hp : p → Sound s) (hr : FirstOf (s.queue w) r) (hst : r.state ≠ .running) (cause : CancelCause) :
    Moves p s (s.cancelNow w r cause) := by
  have hdw : ∀ v, (s.dropWake r).window v = s.window v := window_congr (by simp)
  have hwin : (s.cancelNow w r cause).window w = { s.window w with queue := without (s.queue w) r.tag } := by
    simp only [State.cancelNow]
    rw [window_congr (t := State.joinBacklog _ _) (joinBacklog_frame ..).1, window_setQueue, if_pos rfl, hdw, queue_eq, hdw]
    rfl
  have hq : (s.cancelNow w r cause).queue w = without (s.queue w) r.tag := by rw [queue_eq, hwin]
  have hstep : Step s (s.cancelNow w r cause) w [r.endCancelled cause] := by
    refine ⟨fun v hv => ?_, by rw [hwin], by simp [State.cancelNow], by simp [State.cancelNow], ?_, ?_⟩
    · simp only [State.cancelNow]
      rw [window_congr (t := State.joinBacklog _ _) (joinBacklog_frame ..).1, window_setQueue, if_neg hv, hdw]
    · rw [hq]; exact List.filter_sublist.map _
    · rw [hq]; simpa using (without_subperm hr.mem).length_le
  have hsch : (s.cancelNow w r cause).sch = s.sch := by simp [State.cancelNow]
  have hbus : (s.cancelNow w r cause).bus = s.bus := by simp [State.cancelNow]
  refine ⟨hstep.goes hp fun hc => ⟨?_, ?_, by simp [hsch], by rw [hbus, hsch]; exact (hp hc).access,
    by simp [Record.endCancelled, Record.complete], fun _ ha => ?_⟩, fun hc hf => hstep.fits hf ⟨.inl (by rw [hbus]), ?_, ?_⟩
      (messagesFit_of_eq (by simp [messages, State.cancelNow]) hf.messages)⟩
  · rw [hq]
    exact tags_without_subperm hr.mem
  · rw [hwin, hsch]; exact ((hp hc).window w).without hr hst
  · rw [hq]; exact fun x hx => ha w x (mem_of_mem_without hx)
  · have hwr : (s.cancelNow w r cause).writing w = s.writing w := by unfold State.writing; rw [hbus]
    rw [hwin, hwr]; exact (hf.window w).without hr
  · simpa [Record.endCancelled, Record.complete] using data_le_of_mem (hf.window w) hr.mem

/-- The record of a tag with an abort request (R5). -/
def markAbort (tag : Word) (cause : CancelCause) (x : Record) : Record := if x.tag = tag then { x with abort := some cause } else x

theorem markAbort_alike (tag : Word) (cause : CancelCause) (x : Record) :
    (markAbort tag cause x).tag = x.tag ∧ (markAbort tag cause x).epoch = x.epoch ∧ (markAbort tag cause x).state = x.state ∧
    (markAbort tag cause x).outcome = x.outcome ∧ (markAbort tag cause x).wake = x.wake ∧
    ∀ width b, need width b (markAbort tag cause x) = need width b x := by
  unfold markAbort
  split <;> simp [need, Record.room]

theorem recordSound_markAbort {tag : Word} {cause : CancelCause} {x : Record} (h : RecordSound x) :
    RecordSound (markAbort tag cause x) := by
  obtain ⟨-, -, hst, hout, hwake, -⟩ := markAbort_alike tag cause x
  unfold RecordSound
  rw [hst, hout, hwake]; exact h

theorem WindowSound.markAbort {x : Window} {g : Prop} (h : WindowSound x g) (tag : Word) (cause : CancelCause) :
    WindowSound { x with queue := x.queue.map (markAbort tag cause) } g where
  records := List.forall_mem_map.mpr fun r hr => recordSound_markAbort (h.records r hr)
  tail := by
    rw [← List.map_tail]
    exact List.forall_mem_map.mpr fun r hr => (markAbort_alike tag cause r).2.2.1.trans (h.tail r hr)
  running := by
    rw [h.running, List.head?_map]
    cases x.queue.head? <;> simp [markAbort_alike]
  disabled e := by rw [h.disabled e]; rfl
  faulted e := List.forall_mem_map.mpr fun r hr => (markAbort_alike tag cause r).2.2.1.trans (h.faulted e r hr)

theorem WindowFits.markAbort {x : Window} {b : Bool} (h : WindowFits x b) (tag : Word) (cause : CancelCause) :
    WindowFits { x with queue := x.queue.map (markAbort tag cause) } b := by
  have hneed : ∀ width c r, need width c (Records.markAbort tag cause r) = need width c r :=
    fun width c r => (markAbort_alike tag cause r).2.2.2.2.2 width c
  refine ⟨fun r hr => ?_, ?_⟩
  · simp only [List.head?_map, Option.map_eq_some_iff] at hr
    obtain ⟨y, hy, rfl⟩ := hr
    rw [hneed]; exact h.head y hy
  · rw [← List.map_tail]
    exact List.forall_mem_map.mpr fun r hr => (hneed ..).le.trans (h.tail r hr)

theorem requestAbort_moves (hp : p → Sound s) (hr : r ∈ s.queue w) (hst : r.state = .running) (cause : CancelCause) :
    Moves p s (s.requestAbort w r cause) := by
  have h : Moves p s (s.setQueue w ((s.queue w).map (markAbort r.tag cause))) := by
    have hwin : (s.setQueue w ((s.queue w).map (markAbort r.tag cause))).window w =
        { s.window w with queue := (s.queue w).map (markAbort r.tag cause) } := by rw [window_setQueue, if_pos rfl]
    have htags : ((s.queue w).map (markAbort r.tag cause)).map Record.tag = (s.queue w).map Record.tag := by simp [markAbort_alike]
    have hepochs : ((s.queue w).map (markAbort r.tag cause)).map Record.epoch = (s.queue w).map Record.epoch := by
      simp [markAbort_alike]
    have hstep : Step s (s.setQueue w ((s.queue w).map (markAbort r.tag cause))) w [] :=
      ⟨fun v hv => by rw [window_setQueue, if_neg hv], by rw [hwin], by simp, by simp, by rw [queue_setQueue_self, hepochs], by simp⟩
    refine ⟨hstep.goes hp fun hc => ⟨?_, ?_, by simp, by simpa using (hp hc).access, by simp, fun hd ha => ?_⟩,
      fun hc hf => hstep.fits hf ⟨.inl (by simp), ?_, by simp⟩ (messagesFit_of_eq (s := s) (by simp [messages]) hf.messages)⟩
    · rw [queue_setQueue_self, List.append_nil, htags]
    · rw [hwin]; exact ((hp hc).window w).markAbort r.tag cause
    · rw [queue_setQueue_self]
      refine List.forall_mem_map.mpr fun x hx => ?_
      rw [(markAbort_alike ..).2.2.1]
      by_cases e : x.tag = r.tag
      · obtain rfl : x = r := List.inj_on_of_nodup_map (tags_queue_nodup hd w) hx hr e
        exact fun _ => hst
      · rw [show markAbort r.tag cause x = x from if_neg e]
        exact ha w x hx
    · rw [hwin]
      exact (hf.window w).markAbort r.tag cause
  exact h.trans id (settleWaiting_moves h.sound)

theorem findBusSide_spec {tag : Word} (h : s.findBusSide tag = some (w, r)) : FirstOf (s.queue w) r ∧ r.tag = tag := by
  obtain ⟨v, -, hv⟩ := List.exists_of_findSome?_eq_some h
  obtain ⟨x, hx, e⟩ := Option.map_eq_some_iff.mp hv
  obtain ⟨rfl, rfl⟩ := Prod.mk.inj e
  have htag : x.tag = tag := by simpa using List.find?_some hx
  exact ⟨by rw [FirstOf, htag]; exact hx, htag⟩

theorem cancelFound_moves (hp : p → Sound s) (hr : FirstOf (s.queue w) r) : Moves p s (s.cancelFound w r) := by
  unfold State.cancelFound
  split
  · rename_i hst
    split
    · exact requestAbort_moves hp hr.mem hst _
    · exact .refl hp
  all_goals
    rename_i hst
    exact cancelNow_moves hp hr (by simp [hst]) _

end

end Sys2Proof.Records
end

section
namespace Sys2Proof.Records

open Sys2Proof Sys2Proof.Machine

/-! ## The requests -/

section
variable {p : Prop} {s t : State}

theorem length_object_le (k : RequestKind) (m : Message) : (k.object m).length ≤ 2 := by cases k <;> simp [RequestKind.object]

@[simp] theorem length_wordBytes (x : Word) : (wordBytes x).length = 2 := rfl

@[simp] theorem length_natBytes (n : Nat) : (natBytes n).length = 2 := rfl

theorem length_windowBody (s : State) (w : Fin 6) : (s.windowBody w).length = 24 := by
  unfold State.windowBody
  split <;> simp [Profile.bytes]

theorem length_attentionBody (s : State) : (allLines.flatMap fun l => (s.line l).entryBytes).length = 88 := by
  simp [allLines, Line.entryBytes]

theorem refuseFormat_moves (hp : p → Sound s) (m : Message) : Moves p s (s.refuseFormat m) := formReply_moves hp _ _ _ (by simp)

theorem refuse_moves (hp : p → Sound s) (k : RequestKind) (m : Message) (code : ResultCode) : Moves p s (s.refuse k m code) :=
  formReply_moves hp _ _ _ ((length_object_le k m).trans (by simp))

theorem Moves.thenAccept (h : Moves p s t) (k : RequestKind) {body : List Byte} (hlen : body.length ≤ 88) : Moves p s (t.accept k body) :=
  h.trans id (formReply_moves h.sound _ _ _ hlen)

/-- A request that is answered with no more than a reply. -/
theorem accept_moves (hp : p → Sound s) (k : RequestKind) {body : List Byte} (hlen : body.length ≤ 88) : Moves p s (s.accept k body) :=
  (Moves.refl hp).thenAccept k hlen

theorem cancel_moves (hp : p → Sound s) (m : Message) : Moves p s (s.cancel m) := by
  unfold State.cancel
  split
  · dsimp only
    split
    · exact refuse_moves hp ..
    · split
      · exact (cancelFound_moves hp (findBusSide_spec ‹_›).1).thenAccept _ (by simp)
      · split <;> exact refuse_moves hp ..
  · exact refuseFormat_moves hp m

theorem flush_moves (hp : p → Sound s) (m : Message) : Moves p s (s.flush m) := by
  unfold State.flush
  split
  · split
    · exact refuse_moves hp ..
    · exact (flushWindow_moves hp _).thenAccept _ (by simp)
  · exact refuseFormat_moves hp m

theorem clearFault_moves (hp : p → Sound s) (m : Message) : Moves p s (s.clearFault m) := by
  unfold State.clearFault
  split
  · split
    · exact refuse_moves hp ..
    · split
      · exact refuse_moves hp ..
      · split
        · exact refuse_moves hp ..
        · exact (clearWindow_moves hp (not_not.mp ‹_›) _).thenAccept _ (by simp)
  · exact refuseFormat_moves hp m

theorem setupLine_moves (hp : p → Sound s) (l : Fin 8) (mode : LineMode) (priority filter : Nat) (report : Bool) :
    Moves p s (s.setupLine l mode priority filter report) := by
  unfold State.setupLine
  exact .lines hp (by simp) (by simp) (by simp) (by simp) (by simp) (by simp) (by simp)

theorem setupAttention_moves (hp : p → Sound s) (m : Message) : Moves p s (s.setupAttention m) := by
  unfold State.setupAttention
  split
  · split
    · exact refuse_moves hp ..
    · split
      · split
        · exact refuse_moves hp ..
        · exact (setupLine_moves hp ..).thenAccept _ (by simp)
      · exact refuse_moves hp ..
  · exact refuseFormat_moves hp m

theorem acknowledgeAttention_moves (hp : p → Sound s) (m : Message) : Moves p s (s.acknowledgeAttention m) := by
  unfold State.acknowledgeAttention
  split
  · split
    · exact refuse_moves hp ..
    · split
      · exact (Moves.lines hp (by simp) (by simp) (by simp) (by simp) (by simp) (by simp) (by simp)).thenAccept _ (by simp)
      · exact refuse_moves hp ..
  · exact refuseFormat_moves hp m

theorem holdClear_moves (hp : p → Sound s) : Moves p s s.holdClear := by
  have h : Moves p s { s with sch.hold := true } := .frame hp rfl rfl
  unfold State.holdClear
  dsimp only
  split
  · have hset := h.trans id (settleWaiting_moves h.sound)
    exact hset.trans id (formReply_moves hset.sound _ _ _ (by simp))
  · exact .frame hp rfl rfl

theorem holdRequest_moves (hp : p → Sound s) (m : Message) : Moves p s (s.holdRequest m) := by
  unfold State.holdRequest
  split
  · split
    · exact accept_moves hp _ (by simp)
    · exact holdClear_moves hp
  · exact refuseFormat_moves hp m

theorem resumeRequest_moves (hp : p → Sound s) (m : Message) : Moves p s (s.resumeRequest m) := by
  unfold State.resumeRequest
  split
  · split
    · refine Moves.thenAccept ?_ _ (by simp)
      exact .frame hp rfl rfl
    · exact refuse_moves hp ..
  · exact refuseFormat_moves hp m

theorem setSharing_moves (hp : p → Sound s) (m : Message) : Moves p s (s.setSharing m) := by
  unfold State.setSharing
  split
  · split
    · exact refuse_moves hp ..
    · rename_i enable _
      split
      · have h : Moves p s { s with bus.shareEnable := enable, bus.shareLimit := (wordAt m 2).toNat } := .frame hp rfl rfl
        exact (h.trans id (answerRequest_moves h.sound)).thenAccept _ (by simp)
      · exact refuse_moves hp ..
  · exact refuseFormat_moves hp m

theorem setLink_moves (hp : p → Sound s) (m : Message) : Moves p s (s.setLink m) := by
  unfold State.setLink
  split
  · split
    · exact refuse_moves hp ..
    · refine Moves.thenAccept ?_ _ (by simp)
      exact .frame hp rfl rfl
  · exact refuseFormat_moves hp m

theorem queryDevice_moves (hp : p → Sound s) (m : Message) : Moves p s (s.queryDevice m) := by
  unfold State.queryDevice
  split
  · exact accept_moves hp _ (by simp [State.deviceBody])
  · exact refuseFormat_moves hp m

theorem queryWindow_moves (hp : p → Sound s) (m : Message) : Moves p s (s.queryWindow m) := by
  unfold State.queryWindow
  split
  · split
    · exact refuse_moves hp ..
    · exact accept_moves hp _ (by simp [length_windowBody])
  · exact refuseFormat_moves hp m

theorem queryTransaction_moves (hp : p → Sound s) (m : Message) : Moves p s (s.queryTransaction m) := by
  unfold State.queryTransaction
  split
  · split
    · exact refuse_moves hp ..
    · split
      · exact refuse_moves hp ..
      · exact accept_moves hp _ (by simp [Record.queryBody])
  · exact refuseFormat_moves hp m

theorem queryAttention_moves (hp : p → Sound s) (m : Message) : Moves p s (s.queryAttention m) := by
  unfold State.queryAttention
  split
  · exact accept_moves hp _ (length_attentionBody s).le
  · exact refuseFormat_moves hp m

theorem queryLink_moves (hp : p → Sound s) (m : Message) : Moves p s (s.queryLink m) := by
  unfold State.queryLink
  split
  · split
    · exact refuse_moves hp ..
    · refine Moves.thenAccept ?_ _ (by simp [Link.queryBody])
      exact .frame hp rfl rfl
  · exact refuseFormat_moves hp m

theorem pop_moves (hp : p → Sound s) (rest : List Message) : Moves p s (s.pop rest) := .frame hp rfl rfl

end

/-! ## What a step does -/

/-- What the part does at once to its records: it moves them on, takes a new one in, replaces the profile of an empty window, or starts
anew. -/
inductive Advance : State → State → Prop
  | moves {s t : State} (h : Moves (Sound s) s t) : Advance s t
  | submit {s : State} {m : Message} {x : Submission} (h : s.checkSubmit m = .ok x) : Advance s (s.acceptSubmit x)
  | configure {s : State} {w : Fin 6} (h : s.queue w = []) (q : Profile) (enable : Bool) : Advance s (s.configure w q enable)
  | reset (s : State) (cause : ResetCause) (scratch : List Host.Cell) (data : Word) (holding : Bool) :
      Advance s (s.resetBlocks cause scratch data holding)

/-- One advance after another. -/
abbrev Advances : State → State → Prop := Relation.ReflTransGen Advance

theorem Moves.advances {s t : State} (h : Moves (Sound s) s t) : Advances s t := .single (.moves h)

theorem submit_advances (s : State) (m : Message) : Advances s (s.submit m) := by
  unfold State.submit
  split
  · split
    · exact (refuse_moves id ..).advances
    · exact .single (.submit ‹_›)
  · exact (refuseFormat_moves id m).advances

theorem configureWindow_advances (s : State) (m : Message) : Advances s (s.configureWindow m) := by
  unfold State.configureWindow
  split
  · split
    · exact (refuse_moves id ..).advances
    · split
      · split
        · exact (refuse_moves id ..).advances
        · split
          · exact (refuse_moves id ..).advances
          · exact .head (.configure (not_not.mp ‹_›) _ _) (accept_moves id _ (by simp)).advances
      · exact (refuse_moves id ..).advances
  · exact (refuseFormat_moves id m).advances

theorem softReset_advances (s : State) : Advances s s.softReset := by
  unfold State.softReset
  split
  · exact .single (.reset ..)
  · exact .head (.reset ..) (startAnnouncing_moves id).advances

theorem resetDevice_advances (s : State) (m : Message) : Advances s (s.resetDevice m) := by
  unfold State.resetDevice
  split
  · exact softReset_advances s
  · exact (refuseFormat_moves id m).advances

theorem carryOut_advances (s : State) (m : Message) : Advances s (s.carryOut m) := by
  unfold State.carryOut
  split
  · exact submit_advances s m
  · exact (cancel_moves id m).advances
  · exact (flush_moves id m).advances
  · exact configureWindow_advances s m
  · exact (clearFault_moves id m).advances
  · exact (setupAttention_moves id m).advances
  · exact (acknowledgeAttention_moves id m).advances
  · exact (holdRequest_moves id m).advances
  · exact (resumeRequest_moves id m).advances
  · exact (setSharing_moves id m).advances
  · exact (setLink_moves id m).advances
  · exact resetDevice_advances s m
  · exact (queryDevice_moves id m).advances
  · exact (queryWindow_moves id m).advances
  · exact (queryTransaction_moves id m).advances
  · exact (queryAttention_moves id m).advances
  · exact (queryLink_moves id m).advances
  · exact (refuseFormat_moves id m).advances

theorem takeRequest_advances (s : State) : Advances s s.takeRequest := by
  unfold State.takeRequest
  split
  · exact .refl
  · split
    · exact (pop_moves id _).advances.trans (carryOut_advances _ _)
    · exact .refl

theorem takeKind_advances (s : State) (k : Option RequestKind) {body : State → Message → State} (hb : ∀ t m, Advances t (body t m)) :
    Advances s (s.takeKind k body) := by
  unfold State.takeKind
  split
  · exact .refl
  · split
    · exact (pop_moves id _).advances.trans (hb _ _)
    · exact .refl

theorem takeDue_advances (s : State) (d : Due) : Advances s (s.takeDue d) := by
  cases d with
  | frame => exact (checkFrame_moves id).advances
  | request => exact takeRequest_advances s
  | admission => exact (admitOne_moves id).advances
  | report => exact (takeReport_moves id).advances
  | change l => exact (recogniseLine_moves id l).advances
  | release => exact (endRelease_moves id).advances

theorem drainTo_advances (moment : State → Nat) (n : Nat) (s : State) : Advances s (State.drainTo moment n s) := by
  induction n generalizing s with
  | zero => exact .refl
  | succ n ih =>
    unfold State.drainTo
    split
    · exact .refl
    · exact (takeDue_advances s _).trans (ih _)

theorem upToWithin_advances (d : Due) (n : Nat) (s : State) : Advances s (State.upToWithin d n s) := by
  induction n generalizing s with
  | zero => exact .refl
  | succ n ih =>
    unfold State.upToWithin
    split
    · exact .refl
    · split
      · exact .refl
      · exact (takeDue_advances s _).trans (ih _)

theorem before_advances (s : State) (effect : State → State) : Advances s (s.before effect) := drainTo_advances _ _ s

theorem upTo_advances (s : State) (d : Due) : Advances s (s.upTo d) := upToWithin_advances d _ s

theorem event_advances (s : State) {effect : State → State} (he : ∀ t, Moves (Sound t) t (effect t)) : Advances s (s.event effect) := by
  unfold State.event
  split
  · exact .refl
  · exact (before_advances s effect).tail (.moves (he _))

theorem tick_advances (s : State) : Advances s s.tick := (before_advances s _).tail (.moves (reach_moves id _))

theorem releaseReset_advances (s : State) (baud : BitVec 2) (atn : BitVec 8) : Advances s (s.releaseReset baud atn) := by
  unfold State.releaseReset
  split
  · refine .tail (.single (.moves ?_)) (.moves (startAnnouncing_moves id))
    exact .frame id rfl rfl
  · exact .refl

theorem takeFrame_advances (s : State) (wanted : List Byte → Bool) {effect : State → List Byte → State}
    (he : ∀ (t : State) g, (Sound s → Sound t) → Moves (Sound s) t (effect t g)) : Advances s (s.takeFrame wanted effect) :=
  (takeFrame_moves id wanted he).advances

end Sys2Proof.Records
end

section
namespace Sys2Proof.Records

open Sys2Proof Sys2Proof.Machine

/-! ## The commands -/

/-- Where the command goes on to a next state, that is reached by advances. -/
def Leads (s : State) (o : Host.Outcome State Fault Refusal) : Prop := ∀ t, o = .next t → Advances s t

theorem leads_next {s t : State} (h : Advances s t) : Leads s (.next t) := by
  rintro _ e
  cases e; exact h

theorem leads_event {s : State} {effect : State → State} (he : ∀ t, Moves (Sound t) t (effect t)) : Leads s (.next (s.event effect)) :=
  leads_next (event_advances s he)

theorem leads_kind {s : State} {k : Option RequestKind} {body : State → Message → State} (hb : ∀ t m, Moves (Sound t) t (body t m)) :
    Leads s (.next (s.takeKind k body)) :=
  leads_next (takeKind_advances s k fun t m => (hb t m).advances)

theorem leads_frame {s : State} {wanted : List Byte → Bool} {effect : State → List Byte → State}
    (he : ∀ (t : State) g, (Sound s → Sound t) → Moves (Sound s) t (effect t g)) : Leads s (.next (s.takeFrame wanted effect)) :=
  leads_next (takeFrame_advances s wanted he)

theorem scratchAccessCompletion_leads (s : State) : Leads s (execScratchAccessCompletion s) := by
  unfold execScratchAccessCompletion
  split
  · exact leads_next .refl
  · dsimp only
    split
    · exact leads_next ((before_advances s _).tail (.moves (finishScratch_moves id)))
    · rintro t e; cases e

theorem breqAsserted_leads (s : State) : Leads s (execBreqAsserted s) := by
  refine leads_next ?_
  split
  · exact Moves.advances (.frame id rfl rfl)
  · exact event_advances s fun t => request_moves id

theorem breqDeasserted_leads (s : State) : Leads s (execBreqDeasserted s) := by
  refine leads_next ?_
  split
  · exact Moves.advances (.frame id rfl rfl)
  · exact event_advances s fun t => withdrawRequest_moves id

theorem changeRecognised_leads (l : Fin 8) (s : State) : Leads s (execChangeRecognised l s) := by
  refine leads_next ?_
  split
  · exact .refl
  · exact (upTo_advances s _).tail (.moves (recogniseLine_moves id l))

theorem exec_leads (i : Instr) (s : State) : Leads s (exec i s) := by
  cases i with
  | submit => exact leads_next (takeKind_advances s _ submit_advances)
  | cancel => exact leads_kind fun _ => cancel_moves id
  | flush => exact leads_kind fun _ => flush_moves id
  | configureWindow => exact leads_next (takeKind_advances s _ configureWindow_advances)
  | clearFault => exact leads_kind fun _ => clearFault_moves id
  | setupAttention => exact leads_kind fun _ => setupAttention_moves id
  | acknowledgeAttention => exact leads_kind fun _ => acknowledgeAttention_moves id
  | hold => exact leads_kind fun _ => holdRequest_moves id
  | resume => exact leads_kind fun _ => resumeRequest_moves id
  | setSharing => exact leads_kind fun _ => setSharing_moves id
  | setLink => exact leads_kind fun _ => setLink_moves id
  | resetDevice => exact leads_next (takeKind_advances s _ resetDevice_advances)
  | queryDevice => exact leads_kind fun _ => queryDevice_moves id
  | queryWindow => exact leads_kind fun _ => queryWindow_moves id
  | queryTransaction => exact leads_kind fun _ => queryTransaction_moves id
  | queryAttention => exact leads_kind fun _ => queryAttention_moves id
  | queryLink => exact leads_kind fun _ => queryLink_moves id
  | unknownRequest => exact leads_kind fun _ => refuseFormat_moves id
  | dataFrame => exact leads_frame fun _ g hs => takeData_moves hs g
  | ackFrame => exact leads_frame fun _ g hs => takeAck_moves hs g
  | nakFrame => exact leads_frame fun _ g hs => takeNak_moves hs g
  | resync => exact leads_frame fun _ _ hs => takeResync_moves hs
  | hostResyncReply => exact leads_frame fun _ _ hs => .refl hs
  | unknownControlFrame => exact leads_frame fun _ _ hs => .refl hs
  | crcError => exact leads_frame fun _ _ hs => takeDamaged_moves hs
  | gapError => exact leads_event fun _ => takeGap_moves id
  | ackRequested => exact leads_event fun _ => requestAck_moves id
  | frameTransmitEnd => exact leads_event fun _ => endFrame_moves id
  | retransmissionTimeout => exact leads_event fun _ => expireRetransmission_moves id
  | announceTimer => exact leads_event fun _ => expireAnnounce_moves id
  | reportTake => exact leads_next ((upTo_advances s _).tail (.moves (takeReport_moves id)))
  | reportAdmission => exact leads_next ((upTo_advances s _).tail (.moves (admitOne_moves id)))
  | shareOverrunRaise => exact leads_event fun _ => overrunRelease_moves id
  | grant starts => exact leads_event fun _ => makeChoice_moves id starts
  | recoveryEnd w => exact leads_event fun _ => endRecovery_moves id w
  | accessCompletion data rdy => exact leads_event fun _ => finishPin_moves id data rdy
  | scratchAccessCompletion => exact scratchAccessCompletion_leads s
  | readyTimeout => exact leads_event fun _ => finishTimeout_moves id
  | pollTimerExpiry w => exact leads_event fun _ => expirePoll_moves id w
  | delayExpiry w => exact leads_event fun _ => expireDelay_moves id w
  | waitTimeout w => exact leads_event fun _ => expireWait_moves id w
  | attentionInputChange line level => exact leads_event fun _ => sampleInput_moves id line level
  | changeRecognised line => exact changeRecognised_leads line s
  | breqAsserted => exact breqAsserted_leads s
  | breqDeasserted => exact breqDeasserted_leads s
  | powerOnReset => exact leads_next (.single (.reset ..))
  | pinReset => exact leads_next (.single (.reset ..))
  | resetRelease baud atn => exact leads_next (releaseReset_advances s baud atn)
  | byteReceived b => exact leads_event fun _ => receive_moves id b
  | bgntAssertion => exact leads_event fun _ => assertBgnt_moves id

theorem step_advances {s t : State} (h : step s = .next t) : Advances s t := by
  unfold step at h
  split at h
  · cases h
    exact tick_advances s
  · refine .head (.moves ?_) (exec_leads _ _ t h)
    exact .frame id rfl rfl

/-- What every advance keeps, every step keeps. -/
theorem step_keeps {good : State → Prop} (hk : ∀ {s t : State}, Advance s t → good s → good t) {s t : State} (h : step s = .next t)
    (hs : good s) : good t := by
  have hadv := step_advances h
  clear h
  induction hadv with
  | refl => exact hs
  | tail _ ha ih => exact hk ha ih

end Sys2Proof.Records
end

section
namespace Sys2Proof.Records

open Sys2Proof Sys2Proof.Machine

/-! ## What an accepted SUBMIT asks for -/

/-- The operation appends no more than R27 counts for it. -/
def Measured (op : Op) : Prop := ∀ width, op.room width 0 false ≤ op.resultSize width

theorem unitSize_eq (width : Width) : unitSize width = width.bytes := by cases width <;> rfl

theorem read_measured {n : Nat} (h : 1 ≤ n) (a : Word) (inc : Bool) : Measured (.read a n inc) := fun width => by
  simp [Op.room, Op.resultSize, unitSize_eq, Nat.max_eq_right h]

theorem modify_measured (a k o : Word) (ret : Bool) : Measured (.modify a k o ret) := fun width => by
  cases ret <;> simp [Op.room, Op.resultSize, unitSize_eq]

theorem le_of_within {lo hi n k : Nat} (h : within lo hi n = some k) : lo ≤ k := by
  unfold within at h
  split at h
  · cases h; omega
  · cases h

section
variable {bs rest : List Byte} {op : Op}

theorem parseRead_measured (h : parseRead bs = some (op, rest)) : Measured op := by
  unfold parseRead at h
  split at h
  · obtain ⟨n, hn, e⟩ := Option.bind_eq_some_iff.mp h
    cases e
    exact read_measured (le_of_within hn) _ _
  · cases h

theorem parseModify_measured (h : parseModify bs = some (op, rest)) : Measured op := by
  unfold parseModify at h
  split at h
  · cases h; exact modify_measured _ _ _ _
  · cases h

theorem parseWrite_measured (h : parseWrite bs = some (op, rest)) : Measured op := by
  unfold parseWrite at h
  split at h
  · cases h; exact fun _ => le_rfl
  · cases h

theorem parseWriteBlock_measured (h : parseWriteBlock bs = some (op, rest)) : Measured op := by
  unfold parseWriteBlock at h
  split at h
  · obtain ⟨n, -, e⟩ := Option.bind_eq_some_iff.mp h
    obtain ⟨⟨vs, more⟩, -, e⟩ := Option.bind_eq_some_iff.mp e
    cases e; exact fun _ => le_rfl
  · cases h

theorem parsePoll_measured (h : parsePoll bs = some (op, rest)) : Measured op := by
  unfold parsePoll at h
  split at h
  · obtain ⟨interval, -, e⟩ := Option.bind_eq_some_iff.mp h
    obtain ⟨attempts, -, e⟩ := Option.bind_eq_some_iff.mp e
    cases e; exact fun _ => le_rfl
  · cases h

theorem parseScan_measured (h : parseScan bs = some (op, rest)) : Measured op := by
  unfold parseScan at h
  split at h
  · obtain ⟨count, -, e⟩ := Option.bind_eq_some_iff.mp h
    obtain ⟨cond, -, e⟩ := Option.bind_eq_some_iff.mp e
    cases e; exact fun _ => le_rfl
  · cases h

theorem parseWait_measured (h : parseWait bs = some (op, rest)) : Measured op := by
  unfold parseWait at h
  split at h
  · obtain ⟨line, -, e⟩ := Option.bind_eq_some_iff.mp h
    cases e; exact fun _ => le_rfl
  · cases h

theorem parseDelay_measured (h : parseDelay bs = some (op, rest)) : Measured op := by
  unfold parseDelay at h
  split at h
  · obtain ⟨interval, -, e⟩ := Option.bind_eq_some_iff.mp h
    cases e; exact fun _ => le_rfl
  · cases h

theorem parseOp_measured (h : parseOp bs = some (op, rest)) : Measured op := by
  unfold parseOp at h
  split at h
  · cases h
  split at h
  · exact parseWrite_measured h
  split at h
  · exact parseWriteBlock_measured h
  split at h
  · exact parseRead_measured h
  split at h
  · exact parseModify_measured h
  split at h
  · exact parsePoll_measured h
  split at h
  · exact parseScan_measured h
  split at h
  · exact parseWait_measured h
  split at h
  · exact parseDelay_measured h
  · cases h

end

theorem parseOps_measured {n : Nat} {bs : List Byte} {ops : List Op} (h : parseOps n bs = some ops) : ∀ op ∈ ops, Measured op := by
  induction n generalizing bs ops with
  | zero =>
    unfold parseOps at h
    split at h <;> cases h
    simp
  | succ n ih =>
    obtain ⟨⟨op, rest⟩, hop, e⟩ := Option.bind_eq_some_iff.mp h
    obtain ⟨more, hmore, e⟩ := Option.bind_eq_some_iff.mp e
    cases e
    exact List.forall_mem_cons.mpr ⟨parseOp_measured hop, ih hmore⟩

theorem measured_sum_le {ops : List Op} (h : ∀ op ∈ ops, Measured op) (width : Width) :
    (ops.map (Op.room width 0 false)).sum ≤ resultSize width ops :=
  List.sum_le_sum fun op hop => h op hop width

/-- The checks of R150 that an accepted SUBMIT has passed, as far as queues, pool and result data depend on them. -/
structure Admissible (s : State) (x : Submission) : Prop where
  enabled : (s.window x.window).state = .enabled
  measured : ∀ op ∈ x.ops, Measured op
  result : resultSize (s.window x.window).profile.width x.ops ≤ 192
  fresh : ∀ r ∈ s.live, r.tag ≠ x.tag
  pool : s.live.length < 48
  reach : x.barrier = true → s.epochReach ≤ 94
  queue : (s.queue x.window).length < (s.window x.window).profile.queueLimit

theorem checkRoom_none {s : State} {x : Submission} (h : s.checkRoom x = none) :
    resultSize (s.window x.window).profile.width x.ops ≤ 192 ∧ s.tagLive x.tag = false ∧ s.poolFull x.barrier = false ∧
    (s.queue x.window).length < (s.window x.window).profile.queueLimit := by
  unfold State.checkRoom at h
  dsimp only at h
  split at h
  · cases h
  split at h
  · cases h
  split at h
  · cases h
  rename_i hres
  split at h
  · cases h
  rename_i htag
  split at h
  · cases h
  rename_i hpool
  split at h
  · cases h
  rename_i hq
  exact ⟨Nat.not_lt.mp hres, eq_false_of_ne_true htag, eq_false_of_ne_true hpool, Nat.not_le.mp hq⟩

theorem room_of_not_poolFull {s : State} {barrier : Bool} (h : s.poolFull barrier = false) :
    s.live.length < 48 ∧ (barrier = true → s.epochReach ≤ 94) := by
  have hroom : s.live.length < Config.poolRecords ∧ (barrier = true → s.epochReach ≤ Config.barrierReach) := by
    simpa [State.poolFull] using h
  exact hroom

theorem checkSubmit_admissible {s : State} {m : Message} {x : Submission} (h : s.checkSubmit m = .ok x) : Admissible s x := by
  unfold State.checkSubmit at h
  split at h
  · cases h
  split at h
  · cases h
  split at h
  · cases h
  · cases h
  rename_i hst
  dsimp only at h
  split at h
  · cases h
  rename_i hops
  split at h
  · split at h
    · cases h
    · rename_i hroom
      cases h
      obtain ⟨hres, htag, hpool, hq⟩ := checkRoom_none hroom
      have hparse := (Option.ite_none_right_eq_some.mp hops).2
      obtain ⟨hfree, hreach⟩ := room_of_not_poolFull hpool
      refine ⟨hst, parseOps_measured hparse, hres, ?_, hfree, hreach, hq⟩
      simpa [State.tagLive] using htag
  · cases h

end Sys2Proof.Records
end

section
namespace Sys2Proof.Records

open Sys2Proof Sys2Proof.Machine

/-! ## A record joins its queue -/

/-- The record `r` has joined the queue of window `w`, between `front` and `back`. -/
structure Joins (s t : State) (w : Fin 6) (r : Record) (front back : List Record) : Prop where
  split : s.queue w = front ++ back
  window : t.window w = { s.window w with queue := front ++ r :: back }
  others : ∀ v, v ≠ w → t.window v = s.window v
  grant : t.sch.grant = s.sch.grant
  access : t.bus.access = s.bus.access
  backlog : t.rpt.backlog = s.rpt.backlog
  place : ∀ y, back.head? = some y → y.state = .queued ∧ y.epoch = r.epoch

section
variable {s t : State} {w : Fin 6} {r : Record} {front back : List Record}

theorem Joins.queue (h : Joins s t w r front back) : t.queue w = front ++ r :: back := by rw [queue_eq, h.window]

/-- The record stands at the tail, or before a QUEUED record of its own epoch (R16, R17). -/
theorem queuePosition_place {q : List Record} {y : Record} (h : (q.drop (queuePosition q r)).head? = some y) :
    y.state = .queued ∧ y.epoch = r.epoch := by
  unfold queuePosition at h
  split at h
  · simp at h
  · rw [List.head?_drop] at h
    obtain ⟨hlt, rfl⟩ := List.getElem?_eq_some_iff.mp h
    have hy := List.findIdx_getElem (w := hlt)
    simp only [Bool.and_eq_true, decide_eq_true_eq] at hy
    exact ⟨hy.1.1, hy.2⟩

theorem acceptSubmit_joins (s : State) (x : Submission) :
    ∃ front back, Joins s (s.acceptSubmit x) x.window (s.newRecord x) front back := by
  refine ⟨_, _, (List.take_append_drop (queuePosition (s.queue x.window) (s.newRecord x)) _).symm, ?_, ?_, rfl, rfl, rfl,
    fun y hy => queuePosition_place hy⟩
  · exact window_setWindow_self ..
  · exact fun v hv => window_setWindow_ne s _ hv

theorem Joins.live_perm (h : Joins s t w r front back) : t.live.Perm (r :: s.live) := by
  refine (Records.live_perm t w).trans (.trans ?_ ((Records.live_perm s w).symm.cons r))
  rw [h.queue, h.split, h.backlog, elsewhere_congr h.others]
  simp only [List.append_assoc, List.cons_append]
  exact List.perm_middle

/-- The records of the longer queue are those of the shorter, and the new one. -/
theorem Joins.forall_queue {good : Record → Prop} (h : Joins s t w r front back) (hr : good r) (hq : ∀ y ∈ s.queue w, good y) :
    ∀ y ∈ t.queue w, good y := by
  rw [h.queue]
  rw [h.split] at hq
  exact List.forall_mem_append.mpr ⟨fun y hy => hq y (List.mem_append_left _ hy),
    List.forall_mem_cons.mpr ⟨hr, fun y hy => hq y (List.mem_append_right _ hy)⟩⟩

/-- The new record is its queue's head, before records that are all QUEUED, or the head is as it was. -/
theorem Joins.head_cases (h : Joins s t w r front back) (hs : Sound s) :
    (s.sch.grant ≠ some w ∧ (∀ y ∈ s.queue w, y.state = .queued) ∧ t.queue w = r :: s.queue w) ∨
    ∃ x rest, s.queue w = x :: (rest ++ back) ∧ t.queue w = x :: (rest ++ r :: back) := by
  cases front with
  | cons x rest => exact .inr ⟨x, rest, h.split, h.queue⟩
  | nil =>
    have hq : s.queue w = back := h.split
    have hw := hs.window w
    have hqueued : ∀ y ∈ s.queue w, y.state = .queued := by
      cases hb : back with
      | nil => simp [hq, hb]
      | cons y more =>
        rw [hq, hb]
        refine List.forall_mem_cons.mpr ⟨(h.place y (by rw [hb]; rfl)).1, fun z hz => hw.tail z ?_⟩
        rw [← queue_eq, hq, hb]; exact hz
    refine .inl ⟨fun hg => ?_, hqueued, by rw [h.queue, hq]; rfl⟩
    obtain ⟨y, hy, hst⟩ := hw.running.mp hg
    rw [hqueued y (List.mem_of_head? hy)] at hst
    cases hst

theorem Joins.windowSound (h : Joins s t w r front back) (hs : Sound s) (hen : (s.window w).state = .enabled) (hr : RecordSound r)
    (hst : r.state = .queued) : WindowSound (t.window w) (t.sch.grant = some w) := by
  have hw := hs.window w
  have hstate : (t.window w).state = .enabled := by rw [h.window]; exact hen
  have hrec : ∀ y ∈ t.queue w, RecordSound y := h.forall_queue hr hw.records
  rw [h.grant]
  rcases h.head_cases hs with ⟨hg, hqueued, -⟩ | ⟨x, rest, hsq, htq⟩
  · exact .of_queued (fun y hy => ⟨hrec y hy, h.forall_queue hst hqueued y hy⟩) hg (by simp [hstate])
  · have htail : ∀ y ∈ rest ++ back, y.state = .queued := fun y hy => hw.tail y (by rw [← queue_eq, hsq]; exact hy)
    rw [List.forall_mem_append] at htail
    refine ⟨hrec, ?_, ?_, by simp [hstate], by simp [hstate]⟩
    · rw [← queue_eq, htq]
      exact List.forall_mem_append.mpr ⟨htail.1, List.forall_mem_cons.mpr ⟨hst, htail.2⟩⟩
    · rw [hw.running, ← queue_eq, ← queue_eq, hsq, htq]; rfl

theorem Joins.sound (h : Joins s t w r front back) (hs : Sound s) (hen : (s.window w).state = .enabled) (hr : RecordSound r)
    (hst : r.state = .queued) : Sound t where
  window v := by
    by_cases e : v = w
    · rw [e]; exact h.windowSound hs hen hr hst
    · rw [h.others v e, h.grant]; exact hs.window v
  access := by rw [h.access, h.grant]; exact hs.access
  backlog := by rw [h.backlog]; exact hs.backlog

theorem Joins.abortsRun (h : Joins s t w r front back) (ha : AbortsRun s) (hr : r.abort = none) : AbortsRun t := by
  intro v
  by_cases e : v = w
  · rw [e]; exact h.forall_queue (by simp [hr]) (ha w)
  · rw [queue_eq, h.others v e]; exact ha v

theorem Joins.tagsDistinct (h : Joins s t w r front back) (hs : s.tagsDistinct = true) (hr : ∀ y ∈ s.live, y.tag ≠ r.tag) :
    t.tagsDistinct = true := by
  rw [tagsDistinct_iff] at hs ⊢
  rw [(h.live_perm.map Record.tag).nodup_iff, List.map_cons, List.nodup_cons]
  refine ⟨?_, hs⟩
  rintro hmem
  obtain ⟨y, hy, e⟩ := List.mem_map.mp hmem
  exact hr y hy e

theorem Joins.writing (h : Joins s t w r front back) (v : Fin 6) : t.writing v = s.writing v := by
  unfold State.writing; rw [h.access]

theorem Sound.not_writing (hs : Sound s) (hg : s.sch.grant ≠ some w) : s.writing w = false := by
  cases ha : s.bus.access with
  | none => simp [State.writing, ha]
  | some a =>
    have hw : a.window ≠ w := fun e => hg (e ▸ hs.access a ha)
    simp [State.writing, ha, hw]

/-- With no write in progress every record of the window fits as those behind the head do. -/
theorem WindowFits.forall_queue {x : Window} (h : WindowFits x false) : ∀ y ∈ x.queue, need x.profile.width false y ≤ 192 := by
  intro y hy
  cases hq : x.queue with
  | nil => rw [hq] at hy; cases hy
  | cons z rest =>
    rw [hq] at hy
    rcases List.mem_cons.mp hy with rfl | hy
    · exact h.head y (by rw [hq]; rfl)
    · exact h.tail y (by rw [hq]; exact hy)

theorem Joins.windowFits (h : Joins s t w r front back) (hs : Sound s) (hf : WindowFits (s.window w) (s.writing w))
    (hr : need (s.window w).profile.width false r ≤ 192) : WindowFits (t.window w) (t.writing w) := by
  have hp : (t.window w).profile = (s.window w).profile := by rw [h.window]
  rw [h.writing]
  rcases h.head_cases hs with ⟨hg, -, htq⟩ | ⟨x, rest, hsq, htq⟩
  · rw [hs.not_writing hg] at hf ⊢
    refine ⟨?_, ?_⟩ <;> rw [← queue_eq, htq, hp]
    · rintro y hy
      obtain rfl := Option.some.inj hy
      exact hr
    · exact hf.forall_queue
  · have htail : ∀ y ∈ rest ++ back, need (s.window w).profile.width false y ≤ 192 :=
      fun y hy => hf.tail y (by rw [← queue_eq, hsq]; exact hy)
    rw [List.forall_mem_append] at htail
    refine ⟨?_, ?_⟩ <;> rw [← queue_eq, htq, hp]
    · exact fun y hy => hf.head y (by rw [← queue_eq, hsq]; exact hy)
    · exact List.forall_mem_append.mpr ⟨htail.1, List.forall_mem_cons.mpr ⟨hr, htail.2⟩⟩

theorem Joins.fits (h : Joins s t w r front back) (hs : Sound s) (hf : Fits s) (hr : need (s.window w).profile.width false r ≤ 192)
    (hm : MessagesFit t) : Fits t where
  window v := by
    by_cases e : v = w
    · rw [e]; exact h.windowFits hs (hf.window w) hr
    · rw [h.others v e, h.writing]; exact hf.window v
  backlog := by rw [h.backlog]; exact hf.backlog
  messages := hm

end

/-! ## The new record of a SUBMIT -/

theorem need_newRecord {s : State} {x : Submission} (h : Admissible s x) :
    need (s.window x.window).profile.width false (s.newRecord x) ≤ 192 := by
  set width := (s.window x.window).profile.width
  have hroom : (s.newRecord x).room width false = (x.ops.map (Op.room width 0 false)).sum := by
    unfold Record.room State.newRecord
    dsimp only
    cases x.ops <;> simp
  calc need width false (s.newRecord x)
    _ = (x.ops.map (Op.room width 0 false)).sum := by rw [need, hroom]; exact Nat.zero_add _
    _ ≤ resultSize width x.ops := measured_sum_le h.measured width
    _ ≤ 192 := h.result

theorem acceptSubmit_messagesFit {s : State} (x : Submission) (hm : MessagesFit s) : MessagesFit (s.acceptSubmit x) where
  reply r hr := by
    obtain rfl := Option.some.inj hr
    simp
  queue := hm.queue
  replay := hm.replay

/-! ## A window is configured -/

section
variable {s : State} {w : Fin 6}

theorem configure_queue (q : Profile) (enable : Bool) (v : Fin 6) : (s.configure w q enable).queue v = s.queue v := by
  by_cases e : v = w
  · subst e; simp [State.configure, State.queue, State.window, State.setWindow]
  · have h : (s.configure w q enable).window v = s.window v := window_setWindow_ne s _ e
    rw [queue_eq, h, queue_eq]

theorem configure_live (q : Profile) (enable : Bool) : (s.configure w q enable).live = s.live := by
  have hq : (s.configure w q enable).queue = s.queue := funext (configure_queue q enable)
  unfold State.live State.busSide
  rw [hq]
  rfl

theorem configure_window_cases (q : Profile) (enable : Bool) (v : Fin 6) :
    (s.configure w q enable).window v = s.window v ∨ v = w := by
  by_cases e : v = w
  · exact .inr e
  · exact .inl (window_setWindow_ne s _ e)

theorem configure_sound (hs : Sound s) (hq : s.queue w = []) (q : Profile) (enable : Bool) : Sound (s.configure w q enable) where
  window v := by
    rcases configure_window_cases (s := s) (w := w) q enable v with e | rfl
    · rw [e]; exact hs.window v
    · have hnil : ((s.configure v q enable).window v).queue = [] := (configure_queue q enable v).trans hq
      refine .of_queued (by simp [hnil]) (fun hg => ?_) fun _ => hnil
      obtain ⟨r, hr, -⟩ := (hs.window v).running.mp hg
      rw [← queue_eq, hq] at hr
      cases hr
  access := hs.access
  backlog := hs.backlog

theorem configure_fits (hf : Fits s) (hq : s.queue w = []) (q : Profile) (enable : Bool) : Fits (s.configure w q enable) where
  window v := by
    rcases configure_window_cases (s := s) (w := w) q enable v with e | rfl
    · rw [e]; exact hf.window v
    · have hnil : ((s.configure v q enable).window v).queue = [] := (configure_queue q enable v).trans hq
      exact ⟨by simp [hnil], by simp [hnil]⟩
  backlog := hf.backlog
  messages := ⟨hf.messages.reply, hf.messages.queue, hf.messages.replay⟩

/-! ## A reset -/

theorem reset_window (cause : ResetCause) (scratch : List Host.Cell) (data : Word) (holding : Bool) (v : Fin 6) :
    (s.resetBlocks cause scratch data holding).window v = Window.reset := by
  simp [State.resetBlocks, State.window]

theorem reset_queue (cause : ResetCause) (scratch : List Host.Cell) (data : Word) (holding : Bool) (v : Fin 6) :
    (s.resetBlocks cause scratch data holding).queue v = [] := by
  rw [queue_eq, reset_window]; rfl

theorem reset_live (cause : ResetCause) (scratch : List Host.Cell) (data : Word) (holding : Bool) :
    (s.resetBlocks cause scratch data holding).live = [] := by
  have hq := reset_queue (s := s) cause scratch data holding
  simp [State.live, State.busSide, hq]
  rfl

theorem reset_sound (cause : ResetCause) (scratch : List Host.Cell) (data : Word) (holding : Bool) :
    Sound (s.resetBlocks cause scratch data holding) where
  window v := by
    rw [reset_window]
    exact .of_queued (by simp [Window.reset]) (by simp [State.resetBlocks, Scheduler.reset]) fun _ => rfl
  access := by simp [State.resetBlocks, BusEngine.reset]
  backlog := by simp [State.resetBlocks, Reporter.reset]

theorem reset_fits (cause : ResetCause) (scratch : List Host.Cell) (data : Word) (holding : Bool) :
    Fits (s.resetBlocks cause scratch data holding) where
  window v := by
    rw [reset_window]
    exact ⟨by simp [Window.reset], by simp [Window.reset]⟩
  backlog := by simp [State.resetBlocks, Reporter.reset]
  messages := ⟨by simp [State.resetBlocks, Dispatcher.reset], by simp [State.resetBlocks, Reporter.reset],
    by simp [State.resetBlocks, Link.reset]⟩

end

end Sys2Proof.Records
end

section
namespace Sys2Proof.Records

open Sys2Proof Sys2Proof.Machine

/-! ## Pool and queue limits (O10) -/

/-- What `State.poolBounded` says. -/
def PoolFits (s : State) : Prop := s.live.length ≤ 48 ∧ ∀ w, (s.queue w).length ≤ (s.window w).profile.queueLimit

theorem poolBounded_iff (s : State) : s.poolBounded = true ↔ PoolFits s := by
  simp [State.poolBounded, PoolFits, mem_allWindows]

theorem Goes.poolFits {p : Prop} {s t : State} (h : Goes p s t) (hs : PoolFits s) : PoolFits t := by
  obtain ⟨hlive, hq⟩ := hs
  refine ⟨h.count.trans hlive, fun w => ?_⟩
  have hlen : (t.queue w).length ≤ (s.queue w).length := by simpa using (h.order w).length_le
  rw [h.profile]
  exact hlen.trans (hq w)

theorem submit_poolFits {s : State} {x : Submission} (hx : Admissible s x) (hs : PoolFits s) : PoolFits (s.acceptSubmit x) := by
  obtain ⟨front, back, hj⟩ := acceptSubmit_joins s x
  refine ⟨?_, fun v => ?_⟩
  · rw [hj.live_perm.length_eq]; exact hx.pool
  · by_cases e : v = x.window
    · have hlen := hx.queue
      rw [hj.split] at hlen
      rw [e, hj.queue, hj.window]
      simp only [List.length_append, List.length_cons] at hlen ⊢
      omega
    · rw [queue_eq, hj.others v e]; exact hs.2 v

theorem configure_poolFits {s : State} {w : Fin 6} (hq : s.queue w = []) (q : Profile) (enable : Bool) (hs : PoolFits s) :
    PoolFits (s.configure w q enable) := by
  refine ⟨by rw [configure_live]; exact hs.1, fun v => ?_⟩
  rw [configure_queue]
  rcases configure_window_cases (s := s) (w := w) q enable v with e | rfl
  · rw [e]; exact hs.2 v
  · simp [hq]

theorem Advance.poolFits {s t : State} (h : Advance s t) (hs : PoolFits s) : PoolFits t := by
  cases h with
  | moves h => exact h.toGoes.poolFits hs
  | submit h => exact submit_poolFits (checkSubmit_admissible h) hs
  | configure hq q enable => exact configure_poolFits hq q enable hs
  | reset => exact ⟨by simp [reset_live], by simp [reset_queue]⟩

/-! ## Tags and discipline (O11, O12) -/

/-- The discipline of queues with distinct tags: each keeps the other. -/
structure Ordered (s : State) : Prop where
  sound : Sound s
  aborts : AbortsRun s
  tags : s.tagsDistinct = true

theorem ordered_iff (s : State) : Ordered s ↔ s.disciplined = true ∧ s.tagsDistinct = true := by
  rw [disciplined_iff]
  exact ⟨fun h => ⟨⟨h.sound, h.aborts⟩, h.tags⟩, fun h => ⟨h.1.1, h.1.2, h.2⟩⟩

theorem newRecord_sound (s : State) (x : Submission) : RecordSound (s.newRecord x) := by simp [RecordSound, State.newRecord]

theorem submit_sound {s : State} {x : Submission} (hx : Admissible s x) (hs : Sound s) : Sound (s.acceptSubmit x) := by
  obtain ⟨front, back, hj⟩ := acceptSubmit_joins s x
  exact hj.sound hs hx.enabled (newRecord_sound s x) rfl

theorem submit_ordered {s : State} {x : Submission} (hx : Admissible s x) (hs : Ordered s) : Ordered (s.acceptSubmit x) := by
  obtain ⟨front, back, hj⟩ := acceptSubmit_joins s x
  exact ⟨submit_sound hx hs.sound, hj.abortsRun hs.aborts rfl, hj.tagsDistinct hs.tags hx.fresh⟩

theorem configure_ordered {s : State} {w : Fin 6} (hq : s.queue w = []) (q : Profile) (enable : Bool) (hs : Ordered s) :
    Ordered (s.configure w q enable) where
  sound := configure_sound hs.sound hq q enable
  aborts v := by rw [configure_queue]; exact hs.aborts v
  tags := by rw [tagsDistinct_iff, configure_live, ← tagsDistinct_iff]; exact hs.tags

theorem Advance.ordered {s t : State} (h : Advance s t) (hs : Ordered s) : Ordered t := by
  cases h with
  | moves h => exact ⟨h.sound hs.sound, h.aborts hs.sound hs.tags hs.aborts, h.toGoes.tagsDistinct hs.sound hs.tags⟩
  | submit h => exact submit_ordered (checkSubmit_admissible h) hs
  | configure hq q enable => exact configure_ordered hq q enable hs
  | reset => exact ⟨reset_sound .., fun v => by simp [reset_queue], by simp [tagsDistinct_iff, reset_live]⟩

/-! ## Epochs (O14) -/

/-- How far a counter has run ahead of an epoch. -/
def ahead (counter e : Word) : Nat := (counter - e).toNat

/-- Along a list of epochs the counter's lead never grows, and it is at most 96. -/
def InOrder (counter : Word) (es : List Word) : Prop :=
  (es.map (ahead counter)).Pairwise (fun a b => b ≤ a) ∧ ∀ e ∈ es, ahead counter e ≤ 96

/-- What `State.epochsOrdered` says. -/
def EpochsInOrder (s : State) : Prop := ∀ w, InOrder s.epoch ((s.queue w).map Record.epoch)

theorem epochsOrdered_iff (s : State) : s.epochsOrdered = true ↔ EpochsInOrder s := by
  have hmap : ∀ q : List Record, q.map s.epochDistance = (q.map Record.epoch).map (ahead s.epoch) := fun q => by
    rw [List.map_map]; rfl
  simp only [State.epochsOrdered, EpochsInOrder, InOrder, List.all_eq_true, Bool.and_eq_true, decide_eq_true_eq, mem_allWindows,
    forall_const, hmap, List.forall_mem_map]
  rfl

theorem InOrder.sublist {c : Word} {a b : List Word} (h : InOrder c b) (hab : a.Sublist b) : InOrder c a :=
  ⟨h.1.sublist (hab.map _), fun e he => h.2 e (hab.subset he)⟩

theorem Goes.epochsInOrder {p : Prop} {s t : State} (h : Goes p s t) (hs : EpochsInOrder s) : EpochsInOrder t := fun w => by
  rw [h.epoch]; exact (hs w).sublist (h.order w)

theorem le_foldl_max (l : List Nat) (b : Nat) : (∀ a ∈ l, a ≤ l.foldl max b) ∧ b ≤ l.foldl max b := by
  induction l generalizing b with
  | nil => simp
  | cons a l ih =>
    obtain ⟨hall, hb⟩ := ih (max b a)
    refine ⟨List.forall_mem_cons.mpr ⟨?_, hall⟩, ?_⟩
    · exact (Nat.le_max_right b a).trans hb
    · exact (Nat.le_max_left b a).trans hb

/-- The epoch reach is no less than the lead over any record on the bus side (R22). -/
theorem ahead_le_reach {s : State} {w : Fin 6} {r : Record} (h : r ∈ s.queue w) : ahead s.epoch r.epoch ≤ s.epochReach :=
  (le_foldl_max _ 0).1 _ (List.mem_map.mpr ⟨r, List.mem_flatMap.mpr ⟨w, mem_allWindows w, h⟩, rfl⟩)

theorem InOrder.insert {c e : Word} {front back : List Word} (h : InOrder c (front ++ back)) (he : ahead c e ≤ 96)
    (hfront : ∀ a ∈ front, ahead c e ≤ ahead c a) (hback : ∀ b ∈ back, ahead c b ≤ ahead c e) : InOrder c (front ++ e :: back) := by
  obtain ⟨hpair, hall⟩ := h
  refine ⟨?_, ?_⟩
  · simp only [List.map_append, List.map_cons, List.pairwise_append, List.pairwise_cons, List.forall_mem_map, List.forall_mem_cons]
      at hpair ⊢
    obtain ⟨hf, hb, hfb⟩ := hpair
    exact ⟨hf, ⟨hback, hb⟩, fun a ha => ⟨hfront a ha, hfb a ha⟩⟩
  · rw [List.forall_mem_append] at hall ⊢
    exact ⟨hall.1, List.forall_mem_cons.mpr ⟨he, hall.2⟩⟩

/-- After the first of its epochs the counter's lead is at most the lead over that one. -/
theorem InOrder.le_head {c : Word} {front back : List Word} (h : InOrder c (front ++ back)) {e : Word}
    (hhead : ∀ b, back.head? = some b → b = e) : ∀ b ∈ back, ahead c b ≤ ahead c e := by
  cases back with
  | nil => simp
  | cons b rest =>
    obtain rfl := hhead b rfl
    have hpair := (List.pairwise_append.mp (List.map_append ▸ h.1)).2.1
    rw [List.map_cons, List.pairwise_cons] at hpair
    exact List.forall_mem_cons.mpr ⟨le_rfl, fun a ha => hpair.1 _ (List.mem_map_of_mem ha)⟩

/-- A counter raised by 2 leads every epoch by 2 more. -/
theorem ahead_add_two {c e : Word} (h : ahead c e ≤ 94) : ahead (c + 2) e = ahead c e + 2 := by
  unfold ahead at *
  bv_omega

theorem InOrder.raise {c : Word} {es : List Word} (h : InOrder c es) (h94 : ∀ e ∈ es, ahead c e ≤ 94) : InOrder (c + 2) es := by
  have hadd : ∀ e ∈ es, ahead (c + 2) e = ahead c e + 2 := fun e he => ahead_add_two (h94 e he)
  refine ⟨?_, fun e he => ?_⟩
  · rw [List.map_congr_left hadd, List.pairwise_map]
    exact (List.pairwise_map.mp h.1).imp fun hab => by omega
  · have := h94 e he
    rw [hadd e he]
    omega

/-- A SUBMIT's epoch and the counter after it: the lead is 0, or for a barrier 1 and 2 more for every other record (R20, R21). -/
theorem submit_counter {s : State} {x : Submission} (hx : Admissible s x) (hs : EpochsInOrder s) :
    ahead (s.acceptSubmit x).epoch (s.newRecord x).epoch ≤ 1 ∧
    ∀ w, InOrder (s.acceptSubmit x).epoch ((s.queue w).map Record.epoch) ∧
      ∀ r ∈ s.queue w, ahead (s.acceptSubmit x).epoch (s.newRecord x).epoch ≤ ahead (s.acceptSubmit x).epoch r.epoch := by
  cases hb : x.barrier with
  | false =>
    have ht : (s.acceptSubmit x).epoch = s.epoch := by simp [State.acceptSubmit, State.accept, hb]
    have hr : (s.newRecord x).epoch = s.epoch := by simp [State.newRecord, State.nextEpoch, hb]
    have hz : ahead s.epoch s.epoch = 0 := by simp [ahead]
    rw [ht, hr, hz]
    exact ⟨Nat.zero_le 1, fun w => ⟨hs w, fun _ _ => Nat.zero_le _⟩⟩
  | true =>
    have ht : (s.acceptSubmit x).epoch = s.epoch + 2 := by simp [State.acceptSubmit, State.accept, hb]
    have hr : (s.newRecord x).epoch = s.epoch + 1 := by simp [State.newRecord, State.nextEpoch, hb]
    have hone : ahead (s.epoch + 2) (s.epoch + 1) = 1 := by unfold ahead; bv_omega
    have h94 : ∀ w, ∀ r ∈ s.queue w, ahead s.epoch r.epoch ≤ 94 := fun w r h => (ahead_le_reach h).trans (hx.reach hb)
    rw [ht, hr, hone]
    refine ⟨le_rfl, fun w => ⟨(hs w).raise (List.forall_mem_map.mpr (h94 w)), fun r h => ?_⟩⟩
    rw [ahead_add_two (h94 w r h)]
    omega

theorem submit_epochsInOrder {s : State} {x : Submission} (hx : Admissible s x) (hs : EpochsInOrder s) :
    EpochsInOrder (s.acceptSubmit x) := fun v => by
  obtain ⟨front, back, hj⟩ := acceptSubmit_joins s x
  obtain ⟨hone, hcount⟩ := submit_counter hx hs
  obtain ⟨hord, hlead⟩ := hcount v
  by_cases e : v = x.window
  · subst e
    rw [hj.split, List.map_append] at hord
    rw [hj.queue, List.map_append, List.map_cons]
    refine hord.insert (hone.trans (by decide)) (List.forall_mem_map.mpr fun r h => hlead r ?_) (hord.le_head fun b hb => ?_)
    · rw [hj.split]; exact List.mem_append_left _ h
    · obtain ⟨y, hy, rfl⟩ := Option.map_eq_some_iff.mp (List.head?_map ▸ hb)
      exact (hj.place y hy).2
  · rw [queue_eq, hj.others v e]; exact hord

theorem Advance.epochsInOrder {s t : State} (h : Advance s t) (hs : EpochsInOrder s) : EpochsInOrder t := by
  cases h with
  | moves h => exact h.toGoes.epochsInOrder hs
  | submit h => exact submit_epochsInOrder (checkSubmit_admissible h) hs
  | configure hq q enable => exact fun v => by rw [configure_queue]; exact hs v
  | reset => exact fun v => by simp [reset_queue, InOrder]

/-! ## Result data and reports (O16) -/

theorem submit_fits {s : State} {x : Submission} (hx : Admissible s x) (hs : Sound s) (hf : Fits s) : Fits (s.acceptSubmit x) := by
  obtain ⟨front, back, hj⟩ := acceptSubmit_joins s x
  exact hj.fits hs hf (need_newRecord hx) (acceptSubmit_messagesFit x hf.messages)

theorem Advance.fits {s t : State} (h : Advance s t) (hs : Sound s ∧ Fits s) : Sound t ∧ Fits t := by
  obtain ⟨hs, hf⟩ := hs
  cases h with
  | moves h => exact ⟨h.sound hs, h.fits hs hf⟩
  | submit h =>
    have hx := checkSubmit_admissible h
    exact ⟨submit_sound hx hs, submit_fits hx hs hf⟩
  | configure hq q enable => exact ⟨configure_sound hs hq q enable, configure_fits hf hq q enable⟩
  | reset => exact ⟨reset_sound .., reset_fits ..⟩

/-! ## The obligations -/

/-- Settles O10: no advance adds a live record but an accepted SUBMIT, whose checks leave room for one. -/
theorem poolStaysBounded : Obligations.PoolStaysBounded := by
  intro s t hs h
  rw [poolBounded_iff] at hs ⊢
  exact step_keeps Advance.poolFits h hs

/-- Settles O11: every advance keeps tags and discipline together. -/
theorem tagsStayDistinct : Obligations.TagsStayDistinct := fun s _ hd ht h =>
  (step_keeps Advance.ordered h ((ordered_iff s).mpr ⟨hd, ht⟩)).tags

/-- Settles O12: every advance keeps tags and discipline together. -/
theorem queuesStayDisciplined : Obligations.QueuesStayDisciplined := fun s t ht hd h =>
  ((ordered_iff t).mp (step_keeps Advance.ordered h ((ordered_iff s).mpr ⟨hd, ht⟩))).1

/-- Settles O14: a queue's epochs are a part of what they were, or an accepted SUBMIT has put its own in order. -/
theorem epochsStayOrdered : Obligations.EpochsStayOrdered := by
  intro s t hs h
  rw [epochsOrdered_iff] at hs ⊢
  exact step_keeps Advance.epochsInOrder h hs

/-- Settles O16: what a record has and can still append never grows, and a SUBMIT is refused where it would pass 192 bytes. -/
theorem reportsStayBounded : Obligations.ReportsStayBounded := by
  intro s t hd hs h
  rw [reportsBounded_iff] at hs ⊢
  rw [disciplined_iff] at hd
  exact (step_keeps Advance.fits h ⟨hd.1, hs⟩).2

end Sys2Proof.Records
end

section
namespace Sys2Proof.Operations

open Sys2Proof Sys2Proof.Machine Sys2Proof.Records

/-! PROOF. What the operations of a transaction do (O25, O48, O50, O52, O55): what SUBMIT measures of them, what a completed access does to
them, and the settlement at an access boundary case by case, a WAIT ATTENTION among them. -/

/-! ## What a SUBMIT measures (R25, R27) -/

theorem fitsWidth_w8_iff (op : Op) : op.fitsWidth .w8 = true ↔ ∀ z ∈ op.values, z.toNat < 256 := by
  simp [Op.fitsWidth]

theorem fitsAddress_iff (op : Op) (bits : Nat) : op.fitsAddress bits = true ↔ ∀ z ∈ op.lastAddress, z < 2 ^ bits := by
  unfold Op.fitsAddress
  cases op.lastAddress <;> simp

/-- Settles O25: each kind of operation by the definitions of its measures. -/
theorem operationMeasures : Obligations.OperationMeasures := by
  intro a v k o x y vs inc ret n i t u l c
  refine ⟨?_, fun op => ⟨rfl, fitsWidth_w8_iff op⟩, fitsAddress_iff⟩
  cases ret <;>
    simp [Op.resultSize, Op.values, Op.lastAddress, Op.access?, unitAddress, Width.bytes, Nat.mul_comm n 2]

/-! ## What a completed access does to its operation (R24, R28 to R36) -/

theorem maskUnit_eq (width : Width) (v : Word) : maskUnit width v = if width = .w8 then v &&& 0x00FF#16 else v := by
  cases width <;> rfl

theorem unitBytes_eq (width : Width) (v : Word) :
    unitBytes width v = if width = .w8 then [v.setWidth 8] else [v.setWidth 8, (v >>> 8).setWidth 8] := by
  cases width <;> rfl

/-- The condition of a SCAN compares unsigned numbers (R35). -/
theorem holds_eq (c : ScanCond) (x key : Word) : c.holds x key = match c with
    | .eq => decide (x = key) | .ne => decide (x ≠ key)
    | .le => decide (x.toNat ≤ key.toNat) | .ge => decide (key.toNat ≤ x.toNat) := by
  cases c <;> rfl

theorem nextUnit_eq (r : Record) (n : Nat) :
    r.nextUnit n = if r.unitIndex + 1 < n then ({ r with unitIndex := r.unitIndex + 1 }, .unit) else (r.advance, .ended) := by
  unfold Record.nextUnit
  by_cases h : r.unitIndex + 1 < n
  · rw [if_neg (by omega), if_pos h]
  · rw [if_pos (by omega), if_neg h]

theorem polled_eq (r : Record) (width : Width) (v mask want : Word) (n : Nat) :
    r.polled width v mask want n = if v &&& maskUnit width mask = maskUnit width want then (r.advance, .ended)
      else ({ r with attempts := r.attempts + 1 },
        if r.attempts + 1 < n then .missed else .failed .pollExhausted (r.attempts + 1)) := by
  unfold Record.polled
  split
  · rfl
  · dsimp only
    split <;> rfl

theorem scanned_eq (r : Record) (width : Width) (v key mask : Word) (c : ScanCond) (n : Nat) (req : Bool) :
    r.scanned width v key mask c n req =
      if c.holds (v &&& maskUnit width mask) (maskUnit width key) then ((r.append (natBytes r.unitIndex)).advance, .ended)
      else if r.unitIndex + 1 < n then ({ r with unitIndex := r.unitIndex + 1 }, .unit)
      else if req then ({ r with unitIndex := r.unitIndex + 1, data := r.data ++ [0xFF#8, 0xFF#8] }, .failed .notFound n)
      else ((r.append [0xFF#8, 0xFF#8]).advance, .ended) := by
  unfold Record.scanned
  split
  · rfl
  · by_cases h : r.unitIndex + 1 < n
    · rw [if_neg (Nat.not_le.mpr h), if_pos h]
    · rw [if_pos (Nat.not_lt.mp h), if_neg h]
      rfl

/-- Settles O52: each kind of operation by what its own unit does. -/
theorem operationTakesUnit : Obligations.OperationTakesUnit := by
  intro r width v
  refine ⟨fun _ _ => rfl, fun _ _ _ _ => rfl, fun _ _ vs => nextUnit_eq r vs.length, fun a n inc => ?_, fun a m x i n => ?_,
    fun a n inc key m c req => ?_⟩
  · rw [Record.accessed, nextUnit_eq, unitBytes_eq]; rfl
  · rw [Record.accessed, polled_eq, maskUnit_eq, maskUnit_eq]; rfl
  · rw [Record.accessed, scanned_eq, holds_eq, maskUnit_eq, maskUnit_eq]; rfl

end Sys2Proof.Operations
end

section
namespace Sys2Proof.Operations

open Sys2Proof Sys2Proof.Machine Sys2Proof.Records

/-! ## A scratch access (R26, R62, R63) -/

section
variable {s : State} {a : Access} {r : Record} {op : Op}

theorem scratchInside_iff (width : Width) (addr : Word) : scratchInside width addr = true ↔
    (if width = .w8 then addr.toNat else 2 * addr.toNat) + (if width = .w8 then 1 else 2) ≤ 512 := by
  cases width <;> simp [scratchInside, scratchByte, Width.bytes, Config.scratchBytes]

theorem finishScratch_eq (ha : s.bus.access = some a) (ht : (s.window a.window).profile.target = .scratch) :
    s.finishScratch = s.completeScratch a := by
  simp [State.finishScratch, State.scratchAccess, ha, ht]

theorem completeScratch_now (s : State) (a : Access) : (s.completeScratch a).now = max s.now (a.start + 2) := by
  unfold State.completeScratch
  cases a.kind <;> simp [reach_now]

/-- On a quiet part the access completes, or is a fault where its unit lies outside the 512 bytes (log entry 25). -/
theorem exec_scratchAccessCompletion (ha : s.bus.access = some a) (ht : (s.window a.window).profile.target = .scratch)
    (hq : s.quietTo (max s.now (a.start + 2)) = true) :
    exec .scratchAccessCompletion s =
      if scratchInside (s.window a.window).profile.width a.addr then .next (s.completeScratch a) else .fault .scratchOutside := by
  obtain ⟨hholding, hdue⟩ := quietTo_iff.mp hq
  have hfinish := finishScratch_eq ha ht
  have hbefore : s.before State.finishScratch = s := before_of_dueBy_none (by rw [hfinish, completeScratch_now]; exact hdue)
  have haccess : s.scratchAccess = some a := by simp [State.scratchAccess, ha, ht]
  have hexec : exec .scratchAccessCompletion s = execScratchAccessCompletion s := rfl
  simp [hexec, execScratchAccessCompletion, hholding, hbefore, haccess, hfinish]

/-- An access that a boundary follows ends there, its operation having taken the unit (R31, R87). -/
theorem takeUnit_of_boundary (hr : s.head a.window = some r) (hop : r.op? = some op)
    (hk : ∀ addr k o ret, op = .modify addr k o ret → a.kind = .write) (v : Word) :
    s.takeUnit a v = s.endAccess a.window r.opIndex r.unitIndex (r.accessed op (s.window a.window).profile.width v).1
      (r.accessed op (s.window a.window).profile.width v).2 := by
  unfold State.takeUnit
  simp only [hr, hop]
  cases op with
  | modify addr k o ret => rw [hk addr k o ret rfl]
  | _ => cases a.kind <;> rfl

/-- The read of a MODIFY is followed by its write (R31). -/
theorem takeUnit_of_modifyRead {addr k o : Word} {ret : Bool} (hr : s.head a.window = some r)
    (hop : r.op? = some (.modify addr k o ret)) (hk : a.kind = .read) (v : Word) :
    s.takeUnit a v = s.beginModifyWrite a (if ret then r.append (unitBytes (s.window a.window).profile.width v) else r)
      (modified v (maskUnit (s.window a.window).profile.width k) (maskUnit (s.window a.window).profile.width o)) := by
  unfold State.takeUnit
  simp only [hr, hop, hk]

/-- The state that a scratch access hands to its operation: its 2 ticks have passed, and a write has replaced its unit (R63). -/
def scratchMoved (s : State) (a : Access) : State :=
  { s with
    now := max s.now (a.start + 2)
    bus.scratch := if a.kind = .write then scratchWriteUnit s.bus.scratch (s.window a.window).profile.width a.addr a.value
      else s.bus.scratch }

theorem scratchMoved_of_read (hk : a.kind = .read) : scratchMoved s a = { s with now := max s.now (a.start + 2) } := by
  simp [scratchMoved, hk]

theorem completeScratch_eq (s : State) (a : Access) : s.completeScratch a = (scratchMoved s a).takeUnit a
    (if a.kind = .write then a.value else scratchReadUnit s.bus.scratch (s.window a.window).profile.width a.addr) := by
  unfold State.completeScratch scratchMoved
  cases a.kind <;> rfl

/-- At a SCRATCH target the write of a MODIFY begins at once and moves no pin (R31, R63). -/
theorem beginModifyWrite_of_scratch (ht : (s.window a.window).profile.target = .scratch) (value : Word) :
    s.beginModifyWrite a r value = State.setHead { s with
      bus.access := some { a with kind := .write, value := value, elided := false, start := s.now }
      bus.prevUnit := none
      sch.slice := s.sch.slice + 1 } a.window r := by
  simp [State.beginModifyWrite, BusEngine.begin, ht]

end

/-- Settles O55: the unit is outside, or its completion hands it to the operation, which a boundary follows but for the read of a
MODIFY. -/
theorem scratchAccess : Obligations.ScratchAccess := by
  intro s a r op ha hr hop hq p ht first unit
  have hexec := exec_scratchAccessCompletion ha ht hq
  have hmoved : (scratchMoved s a).head a.window = some r := hr
  have htarget : ((scratchMoved s a).window a.window).profile.target = .scratch := ht
  refine ⟨fun hout => ?_, fun hin hk => ?_, fun addr k o ret hin hmodify hk => ?_⟩
  · rw [hexec, if_neg fun h => Nat.not_lt.mpr ((scratchInside_iff _ _).mp h) hout]
  · rw [hexec, if_pos ((scratchInside_iff _ _).mpr hin), completeScratch_eq, takeUnit_of_boundary hmoved hop hk]
    rfl
  · subst hmodify
    rw [hexec, if_pos ((scratchInside_iff _ _).mpr hin), completeScratch_eq, takeUnit_of_modifyRead hmoved hop hk,
      beginModifyWrite_of_scratch htarget, scratchMoved_of_read hk]
    cases ret <;> rfl

end Sys2Proof.Operations
end

section
namespace Sys2Proof.Operations

open Sys2Proof Sys2Proof.Machine Sys2Proof.Records

/-! ## The cases of R41, one by one -/

section
variable {s : State} {w : Fin 6} {r : Record} {b : Boundary}

/-- Neither case 1 nor case 2 of R41 applies: the operation has not failed, and one is left. -/
def Continues (r : Record) (b : Boundary) : Prop := b = .unit ∨ b = .missed ∨ (b = .ended ∧ r.opIndex < r.ops.length)

theorem continues_of (hf : ∀ reason detail, b ≠ .failed reason detail) (he : b ≠ .ended ∨ r.opIndex < r.ops.length) : Continues r b := by
  cases b with
  | failed reason detail => exact absurd rfl (hf reason detail)
  | ended => exact .inr (.inr ⟨rfl, he.resolve_left fun h => h rfl⟩)
  | missed => exact .inr (.inl rfl)
  | unit => exact .inl rfl

theorem finished_iff (r : Record) : r.finished = true ↔ r.ops.length ≤ r.opIndex := by simp [Record.finished]

theorem finished_of_lt (h : r.opIndex < r.ops.length) : r.finished = false := by
  simpa [Record.finished] using h

theorem settle_of_head (hr : s.head w = some r) (starts : Bool) (b : Boundary) :
    s.settle starts w b = (State.settleUpTo starts w r.ops.length b s).releaseAt w := by
  unfold State.settle
  rw [hr]

/-- Case 1 (R43, R44, R51). -/
theorem failHead_eq (s : State) (w : Fin 6) (r : Record) (reason : FailReason) (detail : Nat) :
    let t := s.retireHead w (r.endFailed reason detail)
    s.failHead w r reason detail = if reason = .readyTimeout ∨ (s.window w).profile.softStop = true then
      t.setWindow w { t.window w with state := .faulted } else t := by
  have hhard : reason.hard = decide (reason = .readyTimeout) := by cases reason <;> rfl
  simp [State.failHead, hhard]

/-- Case 2 (R42). -/
theorem settleUpTo_of_finished (hr : s.head w = some r) (hf : r.ops.length ≤ r.opIndex) (starts : Bool) (n : Nat) :
    State.settleUpTo starts w n .ended s = s.retireHead w r.endDone := by
  unfold State.settleUpTo
  simp [hr, (finished_iff r).mpr hf]

/-- Case 3 (R106). -/
theorem settleUpTo_of_abort (hr : s.head w = some r) (hb : Continues r b) {c : CancelCause} (ha : r.abort = some c) (starts : Bool)
    (n : Nat) : State.settleUpTo starts w n b s = s.retireHead w (r.endCancelled c) := by
  unfold State.settleUpTo
  rcases hb with rfl | rfl | ⟨rfl, hlt⟩
  · simp [hr, ha]
  · simp [hr, ha]
  · simp [hr, ha, finished_of_lt hlt]

/-- Case 4 in a POLL (R34). -/
theorem settleUpTo_of_missed (hr : s.head w = some r) (ha : r.abort = none) {a m v : Word} {i k : Nat}
    (hop : r.op? = some (.poll a m v i k)) (starts : Bool) (n : Nat) :
    State.settleUpTo starts w n .missed s = s.parkHead w r (.timer (s.now + Config.us i)) := by
  unfold State.settleUpTo
  simp [hr, ha, hop]

/-- Where no POLL has missed, the cases after the third do not ask what brought the head to the boundary. -/
theorem settleUpTo_of_continues (hr : s.head w = some r) (hb : Continues r b) (ha : r.abort = none) {op : Op} (hop : r.op? = some op)
    (hm : ∀ a m v i k, op = .poll a m v i k → b ≠ .missed) (starts : Bool) (n : Nat) :
    State.settleUpTo starts w n b s = State.settleUpTo starts w n .unit s := by
  rcases hb with rfl | rfl | ⟨rfl, hlt⟩
  · rfl
  · unfold State.settleUpTo
    cases op with
    | poll a m v i k => exact absurd rfl (hm a m v i k rfl)
    | _ => simp [hr, ha, hop]
  · unfold State.settleUpTo
    simp [hr, ha, hop, finished_of_lt hlt]

/-- Case 4 in a DELAY (R40). -/
theorem settleUpTo_of_delay (hr : s.head w = some r) (hb : Continues r b) (ha : r.abort = none) {i : Nat} (hop : r.op? = some (.delay i))
    (starts : Bool) (n : Nat) : State.settleUpTo starts w n b s = s.parkHead w r (.timer (s.now + Config.us i)) := by
  rw [settleUpTo_of_continues hr hb ha hop (by simp)]
  unfold State.settleUpTo
  simp [hr, ha, hop]

/-- Cases 5 and 6, where the operation has an access to make. -/
theorem settleUpTo_of_access (hr : s.head w = some r) (hb : Continues r b) (ha : r.abort = none) {op : Op} (hop : r.op? = some op)
    (hacc : (op.access? r.unitIndex).isSome = true) (hm : b ≠ .missed) (starts : Bool) (n : Nat) :
    State.settleUpTo starts w n b s = s.yieldOrGo starts w r := by
  rw [settleUpTo_of_continues hr hb ha hop fun _ _ _ _ _ _ => hm]
  unfold State.settleUpTo
  cases op with
  | waitAttention | delay => simp [Op.access?] at hacc
  | _ => simp [hr, ha, hop]

theorem sliceReached_iff : s.sliceReached = true ↔ 16 ≤ s.sch.slice := decide_eq_true_iff

theorem yieldOrGo_yields (h : s.sch.hold = true ∨ s.requested = true ∨ (16 ≤ s.sch.slice ∧ s.anyCandidate = true)) (starts : Bool) :
    s.yieldOrGo starts w r = s.yieldHead w r := by
  unfold State.yieldOrGo
  rw [if_pos (by simpa [sliceReached_iff, or_assoc] using h)]

theorem yieldOrGo_goes (hh : s.sch.hold = false) (hq : s.requested = false) (hs : ¬ (16 ≤ s.sch.slice ∧ s.anyCandidate = true))
    (starts : Bool) :
    let t : State := { s with sch.slice := if 16 ≤ s.sch.slice then 0 else s.sch.slice }
    s.yieldOrGo starts w r = if starts = true ∧ s.recovering w = false then t.beginAccess w r else t := by
  intro t
  have ht : (if s.sliceReached then { s with sch.slice := 0 } else s : State) = t := by
    simp only [sliceReached_iff, t]
    split <;> rfl
  have hrec : t.recovering w = s.recovering w := rfl
  unfold State.yieldOrGo
  rw [if_neg (by simpa [sliceReached_iff, hh, hq] using hs)]
  simp only [ht, State.beginOrWait, hrec]
  cases starts <;> cases s.recovering w <;> simp

theorem begin_shareEnable (e : BusEngine) (p : Profile) (a : Access) : (e.begin p a).shareEnable = e.shareEnable := by
  unfold BusEngine.begin
  cases p.target <;> rfl

/-- The begin of an access leaves the external master's request as it was. -/
theorem requested_beginAccess (s : State) (w : Fin 6) (r : Record) : (s.beginAccess w r).requested = s.requested := by
  have hshare : (s.beginAccess w r).bus.shareEnable = s.bus.shareEnable := by
    unfold State.beginAccess
    split
    · rfl
    · split
      · rfl
      · exact begin_shareEnable ..
  simp [State.requested, hshare]

/-- With no request nothing is released (R101). -/
theorem releaseAt_of_not_requested (h : s.requested = false) (w : Fin 6) : s.releaseAt w = s := by
  simp [State.releaseAt, h]

end

/-- Settles O48: one lemma for each case of R41, and the release where the external master's request stands. -/
theorem boundaryOrder : Obligations.BoundaryOrder := by
  intro s starts w b r hr park
  have hset := settle_of_head hr starts
  refine ⟨fun reason detail hb => ?_, fun hf => ⟨fun hb hle => ?_, fun he => ?_⟩⟩
  · rw [hb, settle_of_failed hr, failHead_eq]
    rfl
  · rw [hb, hset, settleUpTo_of_finished hr hle]
    rfl
  have hc : Continues r b := continues_of hf he
  refine ⟨fun c ha => ?_, fun ha => ⟨fun a m v i n hop hb => ?_, fun i hop => ?_, fun op hop hacc hm => ⟨fun h => ?_, fun hh hq hs => ?_⟩⟩⟩
  · rw [hset, settleUpTo_of_abort hr hc ha]
    rfl
  · rw [hb, hset, settleUpTo_of_missed hr ha hop, Config.us, Config.ticksPerUs, Nat.mul_comm]
    rfl
  · rw [hset, settleUpTo_of_delay hr hc ha hop, Config.us, Config.ticksPerUs, Nat.mul_comm]
    rfl
  · rw [hset, settleUpTo_of_access hr hc ha hop hacc hm, yieldOrGo_yields h]
    rfl
  · intro t
    have ht : t.requested = false := hq
    rw [hset, settleUpTo_of_access hr hc ha hop hacc hm, yieldOrGo_goes hh hq hs]
    refine releaseAt_of_not_requested ?_ w
    split
    · rw [requested_beginAccess, ht]
    · exact ht

end Sys2Proof.Operations
end

section
namespace Sys2Proof.Operations

open Sys2Proof Sys2Proof.Machine Sys2Proof.Records

/-! ## A line's count and stamp (R127, R130, R131) -/

theorem setLine_setLine (s : State) (l : Fin 8) (x y : Line) : (s.setLine l x).setLine l y = s.setLine l y := by
  simp [State.setLine]

theorem setLine_line (s : State) (l : Fin 8) : s.setLine l (s.line l) = s := by
  simp [State.setLine, State.line]

theorem line_congr {s t : State} (h : t.atn = s.atn) (l : Fin 8) : t.line l = s.line l := by simp [State.line, h]

theorem eq_of_only_lines {s t : State} (h : t.win = s.win ∧ t.epoch = s.epoch ∧ t.sch = s.sch ∧ t.bus = s.bus ∧ t.dsp = s.dsp ∧
    t.rpt = s.rpt ∧ t.lnk = s.lnk ∧ t.breq = s.breq ∧ t.holding = s.holding ∧ t.now = s.now ∧ t.freed = s.freed ∧
    t.pending = s.pending) : t = { s with atn := t.atn } := by
  cases t
  simp_all only

/-- A line whose stamp, if larger than the one given up, is one lower. -/
def restamped (gone : Option Nat) (x : Line) : Line :=
  { x with stamp := x.stamp.map fun n => if gone.any (fun m => decide (m < n)) then n - 1 else n }

theorem restamped_some (m : Nat) (x : Line) : restamped (some m) x = lowerStamp m x := by
  unfold restamped lowerStamp
  cases x with
  | mk => rename_i stamp _ _ _; cases stamp <;> simp; split <;> rfl

theorem restamped_none (x : Line) : restamped none x = x := by
  cases x with
  | mk => simp [restamped]

theorem restamped_of_unstamped (gone : Option Nat) {x : Line} (h : x.stamp = none) : restamped gone x = x := by
  cases x
  simp_all [restamped]

theorem line_dropStamp (s : State) (k l : Fin 8) :
    (s.dropStamp l).line k = if k = l then { s.line l with stamp := none } else restamped (s.line l).stamp (s.line k) := by
  cases h : (s.line l).stamp with
  | none =>
    have hl : { s.line l with stamp := none } = s.line l := by rw [← h]
    simp only [State.dropStamp, h, hl, restamped_none]
    split <;> simp [*]
  | some m =>
    have hmap : (s.dropStamp l).line k = lowerStamp m ((s.setLine l { s.line l with stamp := none }).line k) := by
      simp only [State.dropStamp, h]
      exact Vector.getElem_map ..
    rw [hmap, line_setLine]
    split
    · rfl
    · rw [restamped_some]

/-- With the stamp of line `l` given up, the stamps left are those of the other lines. -/
theorem stamps_dropStamp (s : State) (l : Fin 8) : (s.dropStamp l).stamps = s.otherStamps l := by
  unfold State.stamps State.otherStamps
  refine congrArg List.length (List.filter_congr fun k _ => ?_)
  rw [line_dropStamp]
  by_cases h : k = l <;> simp [h, restamped]

theorem active_iff (x : Line) :
    x.active = true ↔ (x.mode = .levelHigh ∧ x.level = true) ∨ (x.mode = .levelLow ∧ x.level = false) := by
  unfold Line.active
  cases x.mode <;> simp

/-- The first event of a line brings it the newest stamp (R130). -/
theorem line_recordEvent_of_zero {s : State} {l : Fin 8} (h : (s.line l).count = 0) (k : Fin 8) :
    (s.recordEvent l).line k = if k = l then { s.line l with count := 1, stamp := some (s.stamps + 1) } else s.line k := by
  simp only [State.recordEvent, h, if_true, State.giveStamp, setLine_setLine, line_setLine_self]
  exact line_setLine ..

theorem line_rearm_of_zero {s : State} {l : Fin 8} (h : (s.line l).count = 0) (k : Fin 8) :
    (s.rearm l).line k = if k = l ∧ (s.line l).active = true then { s.line l with count := 1, stamp := some (s.stamps + 1) }
      else s.line k := by
  unfold State.rearm
  by_cases ha : (s.line l).active = true
  · simp only [ha, h, decide_true, Bool.and_true, if_true, and_true]
    exact line_recordEvent_of_zero h k
  · simp [ha]

/-- Line `l` has become `x` and then lost its last event, `x` with the line's own stamp. -/
theorem lineCleared_lowerCount (s : State) (l : Fin 8) {x : Line} (hx : x.stamp = (s.line l).stamp) :
    s.lineCleared ((s.setLine l x).lowerCount l 0) l x := by
  have hdrop : (s.setLine l x).lowerCount l 0 = ((s.setLine l { x with count := 0 }).dropStamp l).rearm l := by
    simp [State.lowerCount, setLine_setLine]
  have hline : ∀ k, ((s.setLine l { x with count := 0 }).dropStamp l).line k =
      if k = l then { x with count := 0, stamp := none } else restamped (s.line l).stamp (s.line k) := by
    intro k
    rw [line_dropStamp, line_setLine_self, hx]
    by_cases h : k = l
    · simp [h]
    · simp [h, line_setLine_ne]
  have hstamps : ((s.setLine l { x with count := 0 }).dropStamp l).stamps = s.otherStamps l := by
    rw [stamps_dropStamp]
    unfold State.otherStamps
    refine congrArg List.length (List.filter_congr fun k _ => ?_)
    by_cases h : k = l <;> simp [h, line_setLine_ne]
  have hzero : (((s.setLine l { x with count := 0 }).dropStamp l).line l).count = 0 := by simp [hline]
  have hactive : (((s.setLine l { x with count := 0 }).dropStamp l).line l).active = x.active := by
    rw [hline, if_pos rfl]
    rfl
  refine ⟨eq_of_only_lines (lowerCount_frame (s.setLine l x) l 0), ?_, fun k hk => ?_⟩
  · simp only [hdrop, line_rearm_of_zero hzero, hactive, active_iff, true_and, hstamps]
    simp only [hline, if_true]
  · rw [hdrop, line_rearm_of_zero hzero, if_neg fun h => hk h.1, hline, if_neg hk]
    rfl

/-- A count that stays above 0 changes nothing else. -/
theorem lowerCount_of_pos (s : State) (l : Fin 8) {n : Nat} (hn : n ≠ 0) : s.lowerCount l n = s.setLine l { s.line l with count := n } := by
  simp [State.lowerCount, hn]

/-- The events of a line are no matter of its waiters. -/
theorem waiters_lowerCount (s : State) (l : Fin 8) (n : Nat) : ((s.lowerCount l n).line l).waiters = (s.line l).waiters := by
  by_cases hn : n = 0
  · obtain ⟨-, hl, -⟩ := lineCleared_lowerCount s l (x := s.line l) rfl
    rw [hn, ← setLine_line s l, hl, setLine_line]
    split <;> rfl
  · rw [lowerCount_of_pos s l hn, line_setLine_self]

end Sys2Proof.Operations
end

section
namespace Sys2Proof.Operations

open Sys2Proof Sys2Proof.Machine Sys2Proof.Records

/-! ## The RUNNING head that waits for an event (R37, R133, R134) -/

/-- The head of window `w` is `r`, it is RUNNING, and no other window's queue holds its tag. -/
structure RunsAlone (s : State) (w : Fin 6) (r : Record) : Prop where
  head : s.head w = some r
  running : r.state = .running
  alone : ∀ v, v ≠ w → ∀ q ∈ s.queue v, q.tag ≠ r.tag

/-- The record `r'` is `r`, as far on in its operations or further. -/
def FurtherOn (r r' : Record) : Prop := r'.tag = r.tag ∧ r'.ops = r.ops ∧ r.opIndex ≤ r'.opIndex

section
variable {s t : State} {w : Fin 6} {r : Record}

theorem runsAlone_of_tagsDistinct (hr : s.head w = some r) (hst : r.state = .running) (hd : s.tagsDistinct = true) :
    RunsAlone s w r := by
  refine ⟨hr, hst, fun v hv q hq he => ?_⟩
  rw [tagsDistinct_iff, ((live_perm s w).map Record.tag).nodup_iff, List.map_append, List.nodup_append] at hd
  obtain ⟨-, -, hdisjoint⟩ := hd
  have hnodup : allWindows.Nodup := by decide
  have hq' : q ∈ elsewhere s w := List.mem_flatMap.mpr ⟨v, hnodup.mem_erase_iff.mpr ⟨hv, mem_allWindows v⟩, hq⟩
  have hr' : r ∈ s.queue w ++ s.rpt.backlog := List.mem_append_left _ (List.mem_of_head? hr)
  exact hdisjoint _ (List.mem_map_of_mem hr') _ (List.mem_map_of_mem hq') he.symm

theorem RunsAlone.congr (h : RunsAlone s w r) (hwin : t.win = s.win) : RunsAlone t w r := by
  have hw := window_congr hwin
  exact ⟨by rw [head_eq, hw]; exact h.head, h.running, fun v hv => by rw [queue_eq, hw]; exact h.alone v hv⟩

theorem RunsAlone.advance (h : RunsAlone s w r) : RunsAlone (s.setHead w r.advance) w r.advance :=
  ⟨head_setHead h.head _, h.running, fun v hv => by rw [queue_setHead_ne s _ hv]; exact h.alone v hv⟩

/-- What happens to another window's records leaves it alone, where it brings no tag that was not there. -/
theorem RunsAlone.other (h : RunsAlone s w r) {v : Fin 6} (hv : v ≠ w) (ho : ∀ u, u ≠ v → t.window u = s.window u)
    (hq : ∀ q ∈ t.queue v, ∃ p ∈ s.queue v, q.tag = p.tag) : RunsAlone t w r := by
  refine ⟨by rw [head_eq, ho w hv.symm]; exact h.head, h.running, fun u hu q hqu => ?_⟩
  by_cases e : u = v
  · subst e
    obtain ⟨p, hp, htag⟩ := hq q hqu
    rw [htag]
    exact h.alone u hu p hp
  · rw [queue_eq, ho u e] at hqu
    exact h.alone u hu q hqu

theorem RunsAlone.setHead_other (h : RunsAlone s w r) {v : Fin 6} (hv : v ≠ w) {q q' : Record} (hq : s.head v = some q)
    (htag : q'.tag = q.tag) : RunsAlone (s.setHead v q') w r := by
  refine h.other hv (fun u hu => window_setHead_ne s q' hu) fun p hp => ?_
  rw [queue_eq, window_setHead hq, List.mem_cons] at hp
  rcases hp with rfl | hp
  · exact ⟨q, List.mem_of_head? hq, htag⟩
  · exact ⟨p, List.mem_of_mem_tail hp, rfl⟩

theorem RunsAlone.retireHead_other (h : RunsAlone s w r) {v : Fin 6} (hv : v ≠ w) {q : Record} (hq : s.head v = some q) (q' : Record) :
    RunsAlone (s.retireHead v q') w r := by
  have hret := retireHead_retire hq q'
  refine h.other hv hret.others fun p hp => ⟨p, ?_, rfl⟩
  rw [hret.queue] at hp
  exact List.mem_of_mem_tail hp

theorem RunsAlone.waiterWindow (h : RunsAlone s w r) (l : Fin 8) : s.waiterWindow l r.tag = some w := by
  cases hw : s.waiterWindow l r.tag with
  | none =>
    have := List.find?_eq_none.mp hw w (mem_allWindows w)
    simp [h.head, h.running] at this
  | some v =>
    obtain ⟨q, hq, htag, -⟩ := waiterWindow_spec hw
    by_contra hv
    exact h.alone v (fun e => hv (congrArg some e)) q (List.mem_of_head? hq) htag

/-- Given its event, the RUNNING head goes on to its next operation (R37, R38). -/
theorem RunsAlone.wakeWaiter_eq (h : RunsAlone s w r) (l : Fin 8) : s.wakeWaiter l r.tag = s.setHead w r.advance := by
  simp [State.wakeWaiter, h.waiterWindow l, h.head, h.running]

theorem FurtherOn.refl (r : Record) : FurtherOn r r := ⟨rfl, rfl, Nat.le_refl _⟩

/-- An event given to any waiter leaves the RUNNING head alone on its tag; its own event takes it further on. -/
theorem RunsAlone.wakeWaiter (h : RunsAlone s w r) (l : Fin 8) (tag : Word) :
    ∃ r', RunsAlone (s.wakeWaiter l tag) w r' ∧ FurtherOn r r' ∧ (tag = r.tag → r.opIndex < r'.opIndex) := by
  by_cases htag : tag = r.tag
  · rw [htag, h.wakeWaiter_eq]
    exact ⟨r.advance, h.advance, ⟨rfl, rfl, Nat.le_succ _⟩, fun _ => Nat.lt_succ_self _⟩
  refine ⟨r, ?_, .refl r, fun e => absurd e htag⟩
  cases hw : s.waiterWindow l tag with
  | none => simpa [State.wakeWaiter, hw] using h
  | some v =>
    obtain ⟨q, hq, hqtag, -⟩ := waiterWindow_spec hw
    have hv : v ≠ w := by
      rintro rfl
      rw [Option.some.inj (hq.symm.trans h.head)] at hqtag
      exact htag hqtag.symm
    simp only [State.wakeWaiter, hw, hq]
    split
    · exact h.setHead_other hv hq rfl
    · split
      · exact h.retireHead_other hv hq _
      · exact h.setHead_other hv hq rfl

theorem RunsAlone.deliver (h : RunsAlone s w r) (l : Fin 8) (tag : Word) (rest : List Word) :
    ∃ r', RunsAlone (s.deliver l tag rest) w r' ∧ FurtherOn r r' ∧ (tag = r.tag → r.opIndex < r'.opIndex) := by
  have hlowered : RunsAlone ((s.setLine l { s.line l with waiters := rest }).lowerCount l ((s.line l).count - 1)) w r :=
    h.congr (by simp)
  exact hlowered.wakeWaiter l tag

theorem waiters_deliver (s : State) (l : Fin 8) (tag : Word) (rest : List Word) : ((s.deliver l tag rest).line l).waiters = rest := by
  rw [State.deliver, line_congr (wakeWaiter_frame ..).2.2.1, waiters_lowerCount, line_setLine_self]

/-- A tag of the waiter list is still on it after the routing, or its event has been delivered (R134). -/
theorem RunsAlone.routeUpTo (l : Fin 8) (n : Nat) (h : RunsAlone s w r) :
    ∃ r', RunsAlone (State.routeUpTo l n s) w r' ∧ FurtherOn r r' ∧
      (r.tag ∈ (s.line l).waiters → r.tag ∈ ((State.routeUpTo l n s).line l).waiters ∨ r.opIndex < r'.opIndex) := by
  induction n generalizing s r with
  | zero => exact ⟨r, h, .refl r, .inl⟩
  | succ n ih =>
    unfold State.routeUpTo
    split
    · exact ⟨r, h, .refl r, .inl⟩
    rename_i tag rest hwaiters
    split
    swap
    · exact ⟨r, h, .refl r, .inl⟩
    obtain ⟨r₁, h₁, ⟨htag₁, hops₁, hle₁⟩, hlt₁⟩ := h.deliver l tag rest
    obtain ⟨r₂, h₂, ⟨htag₂, hops₂, hle₂⟩, hlt₂⟩ := ih h₁
    refine ⟨r₂, h₂, ⟨htag₂.trans htag₁, hops₂.trans hops₁, hle₁.trans hle₂⟩, fun hmem => ?_⟩
    rw [hwaiters, List.mem_cons] at hmem
    rcases hmem with hmem | hmem
    · exact .inr ((hlt₁ hmem.symm).trans_le hle₂)
    · rw [waiters_deliver, htag₁] at hlt₂
      exact (hlt₂ hmem).imp_right hle₁.trans_lt

/-- After its registration the head waits, or has been given its event (R133). -/
theorem RunsAlone.register (h : RunsAlone s w r) (l : Fin 8) :
    ∃ r', RunsAlone (s.register l r.tag) w r' ∧ FurtherOn r r' ∧
      (r.tag ∉ ((s.register l r.tag).line l).waiters → r.opIndex < r'.opIndex) := by
  have hset : RunsAlone (s.setLine l { s.line l with waiters := (s.line l).waiters ++ [r.tag] }) w r := h.congr rfl
  obtain ⟨r', hr', hon, hmem⟩ := hset.routeUpTo l _
  exact ⟨r', hr', hon, fun hout => (hmem (by simp)).resolve_left hout⟩

/-- With no event nothing is delivered (R134). -/
theorem routeUpTo_of_no_event {l : Fin 8} (h : (s.line l).count = 0) (n : Nat) : State.routeUpTo l n s = s := by
  cases n with
  | zero => rfl
  | succ n =>
    unfold State.routeUpTo
    simp only [h, Nat.lt_irrefl, if_false]
    split <;> rfl

theorem register_of_no_event {l : Fin 8} (h : (s.line l).count = 0) (tag : Word) :
    s.register l tag = s.setLine l { s.line l with waiters := (s.line l).waiters ++ [tag] } :=
  routeUpTo_of_no_event (by rw [line_setLine_self]; exact h) _

/-- With an event and no other waiter the head takes one event and goes on (R37, R133). -/
theorem RunsAlone.register_of_event (h : RunsAlone s w r) {l : Fin 8} (hc : 1 ≤ (s.line l).count) (hw : (s.line l).waiters = []) :
    s.register l r.tag = (s.lowerCount l ((s.line l).count - 1)).setHead w r.advance := by
  have hset : { s.line l with waiters := [] } = s.line l := by rw [← hw]
  have hdeliver : ∀ x, (s.setLine l { s.line l with waiters := x }).deliver l r.tag [] =
      (s.lowerCount l ((s.line l).count - 1)).setHead w r.advance := by
    intro x
    rw [State.deliver, line_setLine_self, setLine_setLine]
    simp only [hset, setLine_line]
    exact (h.congr (lowerCount_frame ..).1).wakeWaiter_eq l
  simp [State.register, State.route, State.routeUpTo, hw, Nat.lt_of_lt_of_le Nat.zero_lt_one hc, hdeliver]

end

/-! ## A WAIT ATTENTION at the boundary -/

section
variable {s : State} {w : Fin 6} {r : Record} {b : Boundary} {l : Fin 8} {timeout : Nat}

theorem settleUpTo_of_lineOff (hr : s.head w = some r) (hb : Continues r b) (ha : r.abort = none)
    (hop : r.op? = some (.waitAttention l timeout)) (hoff : (s.line l).mode = .off) (starts : Bool) (n : Nat) :
    State.settleUpTo starts w n b s = s.failHead w r .lineOff l.val := by
  rw [settleUpTo_of_continues hr hb ha hop (by simp)]
  unfold State.settleUpTo
  simp [hr, ha, hop, hoff]

theorem settleUpTo_of_waiting (hr : s.head w = some r) (hb : Continues r b) (ha : r.abort = none)
    (hop : r.op? = some (.waitAttention l timeout)) (hoff : (s.line l).mode ≠ .off)
    (hmem : r.tag ∈ ((s.register l r.tag).line l).waiters) (starts : Bool) (n : Nat) :
    State.settleUpTo starts w n b s = (s.register l r.tag).parkHead w r
      (.attention l (if timeout = 0 then none else some (s.now + Config.ms timeout))) := by
  rw [settleUpTo_of_continues hr hb ha hop (by simp)]
  unfold State.settleUpTo
  simp [hr, ha, hop, hoff, hmem]

theorem settleUpTo_of_woken (hr : s.head w = some r) (hb : Continues r b) (ha : r.abort = none)
    (hop : r.op? = some (.waitAttention l timeout)) (hoff : (s.line l).mode ≠ .off)
    (hmem : r.tag ∉ ((s.register l r.tag).line l).waiters) (starts : Bool) (n : Nat) :
    State.settleUpTo starts w (n + 1) b s = State.settleUpTo starts w n .ended (s.register l r.tag) := by
  rw [settleUpTo_of_continues hr hb ha hop (by simp)]
  conv_lhs => unfold State.settleUpTo
  simp [hr, ha, hop, hoff, hmem]

/-- One settlement for each operation left is enough: a WAIT ATTENTION that ends at once takes one of them. -/
theorem settleUpTo_succ (starts : Bool) (n : Nat) (h : RunsAlone s w r) (hn : r.ops.length ≤ r.opIndex + n) :
    State.settleUpTo starts w (n + 1) .ended s = State.settleUpTo starts w n .ended s := by
  induction n generalizing s r with
  | zero => rw [settleUpTo_of_finished h.head hn, settleUpTo_of_finished h.head hn]
  | succ n ih =>
    by_cases hf : r.ops.length ≤ r.opIndex
    · rw [settleUpTo_of_finished h.head hf, settleUpTo_of_finished h.head hf]
    have hlt : r.opIndex < r.ops.length := Nat.lt_of_not_le hf
    have hb : Continues r .ended := .inr (.inr ⟨rfl, hlt⟩)
    cases ha : r.abort with
    | some c => rw [settleUpTo_of_abort h.head hb ha, settleUpTo_of_abort h.head hb ha]
    | none =>
      have hop : r.op? = some r.ops[r.opIndex] := List.getElem?_eq_getElem hlt
      cases hk : r.ops[r.opIndex] with
      | waitAttention l timeout =>
        rw [hk] at hop
        by_cases hoff : (s.line l).mode = .off
        · rw [settleUpTo_of_lineOff h.head hb ha hop hoff, settleUpTo_of_lineOff h.head hb ha hop hoff]
        by_cases hmem : r.tag ∈ ((s.register l r.tag).line l).waiters
        · rw [settleUpTo_of_waiting h.head hb ha hop hoff hmem, settleUpTo_of_waiting h.head hb ha hop hoff hmem]
        · obtain ⟨r', hr', ⟨-, hops, -⟩, hnext⟩ := h.register l
          rw [settleUpTo_of_woken h.head hb ha hop hoff hmem, settleUpTo_of_woken h.head hb ha hop hoff hmem]
          have hlater : r.opIndex < r'.opIndex := hnext hmem
          exact ih hr' (by rw [hops]; omega)
      | delay i =>
        rw [hk] at hop
        rw [settleUpTo_of_delay h.head hb ha hop, settleUpTo_of_delay h.head hb ha hop]
      | _ =>
        have hacc : ((r.ops[r.opIndex]).access? r.unitIndex).isSome = true := by rw [hk]; rfl
        rw [settleUpTo_of_access h.head hb ha hop hacc (by simp), settleUpTo_of_access h.head hb ha hop hacc (by simp)]

end

/-- Settles O50: the line is OFF, or the registration leaves the tag on the waiter list, or it takes an event and the settlement goes on
with one operation fewer. -/
theorem waitAttentionBegins : Obligations.WaitAttentionBegins := by
  intro s starts w b r l timeout hb hr hst ha hop hd
  obtain ⟨hlt, -⟩ := List.getElem?_eq_some_iff.mp hop
  have hc : Continues r b := hb.imp_right fun h => .inr ⟨h, hlt⟩
  have hset := settle_of_head hr starts
  refine ⟨fun hoff => ?_, fun hoff hcount => ?_, fun hoff hcount hwaiters => ⟨⟨fun h2 => ?_, fun h1 => ?_⟩, ?_⟩⟩
  · rw [hset, settleUpTo_of_lineOff hr hc ha hop hoff, settle_of_failed hr]
  · have hmem : r.tag ∈ ((s.register l r.tag).line l).waiters := by simp [register_of_no_event hcount]
    have hms : Config.ms timeout = 40000 * timeout := by simp only [Config.ms, Config.ticksPerUs]; omega
    rw [hset, settleUpTo_of_waiting hr hc ha hop hoff hmem, register_of_no_event hcount, hms]
    rfl
  · exact lowerCount_of_pos s l (by omega)
  · have hcleared := lineCleared_lowerCount s l (x := s.line l) rfl
    simpa [setLine_line, h1] using hcleared
  · have hrun := runsAlone_of_tagsDistinct hr hst hd
    have hregister := hrun.register_of_event hcount hwaiters
    have hnext : RunsAlone (s.register l r.tag) w r.advance := by
      rw [hregister]
      exact RunsAlone.advance (hrun.congr (lowerCount_frame ..).1)
    have hmem : r.tag ∉ ((s.register l r.tag).line l).waiters := by
      rw [hregister, line_congr (setHead_frame ..).2.2.2.1, waiters_lowerCount, hwaiters]
      exact List.not_mem_nil
    obtain ⟨n, hn⟩ : ∃ n, r.ops.length = n + 1 := Nat.exists_eq_succ_of_ne_zero (by omega)
    have hfuel : r.advance.ops.length ≤ r.advance.opIndex + n := by
      simp only [Record.advance]
      omega
    rw [hset, hn, settleUpTo_of_woken hr hc ha hop hoff hmem, ← settleUpTo_succ starts n hnext hfuel, ← hn]
    rw [hregister] at hnext ⊢
    exact (settle_of_head hnext.head starts .ended).symm

end Sys2Proof.Operations
end

section
namespace Sys2Proof.ScratchMemory

open Sys2Proof Sys2Proof.Machine

/-! PROOF. Scratch memory: what every step keeps of it (O8), and how its units read and are written (O21).

Scratch memory is written in two places alone: by the completion of a scratch write, which is a fault outside the 512 bytes, and by a
reset, which may replace the unit of the scratch write it abandons (R64) or clears all. Every other operation of the part leaves it, one
simp lemma for each that writes a part of the Bus Engine. -/

/-! ## The Bus Engine leaves scratch memory -/

section
variable (s : State) (w : Fin 6) (r : Record) (a : Access)

@[simp] theorem scratch_begin (e : BusEngine) (p : Profile) : (e.begin p a).scratch = e.scratch := by
  unfold BusEngine.begin
  split <;> rfl

@[simp] theorem scratch_beginAccess : (s.beginAccess w r).bus.scratch = s.bus.scratch := by
  unfold State.beginAccess
  repeat' split
  all_goals simp

@[simp] theorem scratch_beginOrWait : (s.beginOrWait w r).bus.scratch = s.bus.scratch := by
  unfold State.beginOrWait
  split <;> simp

@[simp] theorem scratch_yieldOrGo (starts : Bool) : (s.yieldOrGo starts w r).bus.scratch = s.bus.scratch := by
  unfold State.yieldOrGo
  dsimp only
  repeat' split
  all_goals simp

@[simp] theorem scratch_settleUpTo (starts : Bool) (n : Nat) (b : Boundary) :
    (State.settleUpTo starts w n b s).bus.scratch = s.bus.scratch := by
  induction n generalizing s b with
  | zero =>
    unfold State.settleUpTo
    dsimp only
    repeat' split
    all_goals simp
  | succ n ih =>
    unfold State.settleUpTo
    dsimp only
    repeat' split
    all_goals simp [ih]

@[simp] theorem scratch_releaseBus (displaced : Option (Fin 6)) : (s.releaseBus displaced).bus.scratch = s.bus.scratch := rfl

@[simp] theorem scratch_releaseAt : (s.releaseAt w).bus.scratch = s.bus.scratch := by
  unfold State.releaseAt
  split <;> simp

@[simp] theorem scratch_settle (starts : Bool) (b : Boundary) : (s.settle starts w b).bus.scratch = s.bus.scratch := by
  simp [State.settle]

@[simp] theorem scratch_settleWaiting : s.settleWaiting.bus.scratch = s.bus.scratch := by
  unfold State.settleWaiting
  repeat' split
  all_goals simp

@[simp] theorem scratch_answerRequest : s.answerRequest.bus.scratch = s.bus.scratch := by
  unfold State.answerRequest
  repeat' split
  all_goals simp

@[simp] theorem scratch_endRelease : s.endRelease.bus.scratch = s.bus.scratch := rfl

@[simp] theorem scratch_endAccess (k i : Nat) (b : Boundary) : (s.endAccess w k i r b).bus.scratch = s.bus.scratch := by
  simp [State.endAccess]

@[simp] theorem scratch_beginModifyWrite (value : Word) : (s.beginModifyWrite a r value).bus.scratch = s.bus.scratch := by
  simp [State.beginModifyWrite]

@[simp] theorem scratch_takeUnit (v : Word) : (s.takeUnit a v).bus.scratch = s.bus.scratch := by
  unfold State.takeUnit
  dsimp only
  repeat' split
  all_goals simp

@[simp] theorem scratch_completePin (strobe : Nat) (data : Word) : (s.completePin a strobe data).bus.scratch = s.bus.scratch := by
  unfold State.completePin
  dsimp only
  rw [scratch_takeUnit]
  rfl

@[simp] theorem scratch_timeoutPin : (s.timeoutPin a).bus.scratch = s.bus.scratch := by
  unfold State.timeoutPin
  dsimp only
  cases a.kind <;> dsimp only <;> repeat' split
  all_goals simp [State.startRecovery]

end

/-! ## The Scheduler and bus sharing leave scratch memory -/

section
variable (s : State) (w : Fin 6)

@[simp] theorem scratch_grantTo (starts : Bool) : (s.grantTo starts w).bus.scratch = s.bus.scratch := by
  unfold State.grantTo
  split <;> simp

@[simp] theorem scratch_makeChoice (starts : Bool) : (s.makeChoice starts).bus.scratch = s.bus.scratch := by
  unfold State.makeChoice
  repeat' split
  all_goals simp

@[simp] theorem scratch_beginWaiting : (s.beginWaiting w).bus.scratch = s.bus.scratch := by
  unfold State.beginWaiting
  repeat' split
  all_goals simp

@[simp] theorem scratch_endRecovery : (s.endRecovery w).bus.scratch = s.bus.scratch := by
  unfold State.endRecovery
  split <;> simp

@[simp] theorem scratch_expireDelay : (s.expireDelay w).bus.scratch = s.bus.scratch := by
  unfold State.expireDelay
  repeat' split
  all_goals simp

@[simp] theorem scratch_finishPin (data : Word) (rdy : List Bool) : (s.finishPin data rdy).bus.scratch = s.bus.scratch := by
  unfold State.finishPin
  repeat' split
  all_goals simp

@[simp] theorem scratch_finishTimeout : s.finishTimeout.bus.scratch = s.bus.scratch := by
  unfold State.finishTimeout
  repeat' split
  all_goals simp

@[simp] theorem scratch_request : s.request.bus.scratch = s.bus.scratch := by simp [State.request]

@[simp] theorem scratch_withdrawRequest : s.withdrawRequest.bus.scratch = s.bus.scratch := by
  unfold State.withdrawRequest
  dsimp only
  split <;> simp

@[simp] theorem scratch_assertBgnt : s.assertBgnt.bus.scratch = s.bus.scratch := by
  unfold State.assertBgnt
  repeat' split
  all_goals simp

@[simp] theorem scratch_overrunRelease : s.overrunRelease.bus.scratch = s.bus.scratch := by
  unfold State.overrunRelease
  dsimp only
  repeat' split
  all_goals simp

end

/-! ## The Link Controller and the Attention Monitor leave scratch memory -/

section
variable (s : State)

@[simp] theorem scratch_recogniseLine (l : Fin 8) : (s.recogniseLine l).bus.scratch = s.bus.scratch := by
  unfold State.recogniseLine
  split <;> simp

theorem scratch_takeFrame (wanted : List Byte → Bool) {effect : State → List Byte → State}
    (he : ∀ t g, (effect t g).bus.scratch = t.bus.scratch) : (s.takeFrame wanted effect).bus.scratch = s.bus.scratch := by
  unfold State.takeFrame
  repeat' split
  all_goals simp [he]

@[simp] theorem scratch_checkFrame : s.checkFrame.bus.scratch = s.bus.scratch := by
  refine scratch_takeFrame s _ fun t g => ?_
  repeat' split
  all_goals simp

end

/-! ## Every request but RESET DEVICE leaves scratch memory -/

section
variable (s : State) (m : Message)

@[simp] theorem bus_refuseFormat : (s.refuseFormat m).bus = s.bus := rfl

@[simp] theorem bus_refuse (k : RequestKind) (code : ResultCode) : (s.refuse k m code).bus = s.bus := rfl

@[simp] theorem bus_accept (k : RequestKind) (body : List Byte) : (s.accept k body).bus = s.bus := rfl

@[simp] theorem scratch_submit : (s.submit m).bus.scratch = s.bus.scratch := by
  unfold State.submit
  repeat' split
  all_goals simp [State.acceptSubmit]

@[simp] theorem scratch_cancelFound (w : Fin 6) (r : Record) : (s.cancelFound w r).bus.scratch = s.bus.scratch := by
  unfold State.cancelFound
  repeat' split
  all_goals simp [State.requestAbort, State.cancelNow]

@[simp] theorem scratch_cancel : (s.cancel m).bus.scratch = s.bus.scratch := by
  unfold State.cancel
  dsimp only
  repeat' split
  all_goals simp

@[simp] theorem scratch_flushWindow (w : Fin 6) : (s.flushWindow w).bus.scratch = s.bus.scratch := by
  unfold State.flushWindow
  dsimp only
  repeat' split
  all_goals simp

@[simp] theorem scratch_flush : (s.flush m).bus.scratch = s.bus.scratch := by
  unfold State.flush
  repeat' split
  all_goals simp

@[simp] theorem scratch_configureWindow : (s.configureWindow m).bus.scratch = s.bus.scratch := by
  unfold State.configureWindow
  repeat' split
  all_goals simp [State.configure]

@[simp] theorem scratch_clearFault : (s.clearFault m).bus.scratch = s.bus.scratch := by
  unfold State.clearFault State.clearWindow
  repeat' split
  all_goals simp

@[simp] theorem scratch_setupAttention : (s.setupAttention m).bus.scratch = s.bus.scratch := by
  unfold State.setupAttention
  repeat' split
  all_goals simp

@[simp] theorem scratch_acknowledgeAttention : (s.acknowledgeAttention m).bus.scratch = s.bus.scratch := by
  unfold State.acknowledgeAttention
  repeat' split
  all_goals simp

@[simp] theorem scratch_holdRequest : (s.holdRequest m).bus.scratch = s.bus.scratch := by
  unfold State.holdRequest State.holdClear
  dsimp only
  repeat' split
  all_goals simp

@[simp] theorem scratch_resumeRequest : (s.resumeRequest m).bus.scratch = s.bus.scratch := by
  unfold State.resumeRequest
  repeat' split
  all_goals simp

@[simp] theorem scratch_setSharing : (s.setSharing m).bus.scratch = s.bus.scratch := by
  unfold State.setSharing
  repeat' split
  all_goals simp

@[simp] theorem scratch_setLink : (s.setLink m).bus.scratch = s.bus.scratch := by
  unfold State.setLink
  repeat' split
  all_goals simp

@[simp] theorem scratch_queryDevice : (s.queryDevice m).bus.scratch = s.bus.scratch := by
  unfold State.queryDevice
  split <;> simp

@[simp] theorem scratch_queryWindow : (s.queryWindow m).bus.scratch = s.bus.scratch := by
  unfold State.queryWindow
  repeat' split
  all_goals simp

@[simp] theorem scratch_queryTransaction : (s.queryTransaction m).bus.scratch = s.bus.scratch := by
  unfold State.queryTransaction
  repeat' split
  all_goals simp

@[simp] theorem scratch_queryAttention : (s.queryAttention m).bus.scratch = s.bus.scratch := by
  unfold State.queryAttention
  split <;> simp

@[simp] theorem scratch_queryLink : (s.queryLink m).bus.scratch = s.bus.scratch := by
  unfold State.queryLink
  repeat' split
  all_goals simp

end

end Sys2Proof.ScratchMemory
end

section
namespace Sys2Proof.ScratchMemory

open Sys2Proof Sys2Proof.Machine

/-! ## What keeps the canonical form -/

/-- From the one state to the other scratch memory keeps its canonical form. -/
def Keeps (s t : State) : Prop := s.scratchCanonical = true → t.scratchCanonical = true

section
variable {s t u : State}

theorem Keeps.refl (s : State) : Keeps s s := id

theorem Keeps.trans (h : Keeps s t) (k : Keeps t u) : Keeps s u := fun hs => k (h hs)

/-- What leaves scratch memory as it is keeps its form. -/
theorem Keeps.same (h : t.bus.scratch = s.bus.scratch) : Keeps s t := fun hs => by
  unfold State.scratchCanonical at *
  rw [h]
  exact hs

/-! ### A scratch write completes -/

/-- The completion of an access keeps the form where its unit lies within the 512 bytes (R62, R63). -/
theorem completeScratch_keeps {a : Access} (hin : scratchInside (s.window a.window).profile.width a.addr = true) :
    Keeps s (s.completeScratch a) := by
  unfold State.completeScratch
  dsimp only
  split
  · exact .same (by simp)
  · intro hs
    unfold State.scratchCanonical
    rw [scratch_takeUnit]
    exact scratchWf_scratchWriteUnit hs hin a.value

theorem finishScratch_keeps (hin : s.scratchAccess.all (fun a => scratchInside (s.window a.window).profile.width a.addr) = true) :
    Keeps s s.finishScratch := by
  unfold State.finishScratch
  split
  · exact .refl s
  · rename_i a ha
    rw [ha] at hin
    exact completeScratch_keeps hin

/-! ### A reset -/

theorem scratchWriteInProgress_inside {a : Access} (h : s.scratchWriteInProgress = some a) :
    scratchInside (s.window a.window).profile.width a.addr = true := by
  unfold State.scratchWriteInProgress at h
  split at h
  · cases h
  · obtain ⟨⟨-, -, hin⟩, e⟩ := Option.ite_none_right_eq_some.mp h
    exact Option.some.inj e ▸ hin

/-- What a pin reset or RESET DEVICE leaves of a canonical scratch memory is canonical (R64, R120). -/
theorem scratchWf_keptScratch (hs : s.scratchCanonical = true) : scratchWf s.keptScratch = true := by
  unfold State.keptScratch
  split
  · exact hs
  · split
    · exact scratchWf_scratchWriteUnit hs (scratchWriteInProgress_inside ‹_›) _
    · exact hs

theorem resetBlocks_keeps (cause : ResetCause) (data : Word) (holding : Bool) :
    Keeps s (s.resetBlocks cause s.keptScratch data holding) := scratchWf_keptScratch

theorem softReset_keeps : Keeps s s.softReset := by
  unfold State.softReset
  split
  · exact resetBlocks_keeps _ _ _
  · exact (resetBlocks_keeps .soft s.dataLevels false).trans (.same (by simp))

theorem powerOn_keeps : Keeps s s.powerOn := fun _ => rfl

theorem resetDevice_keeps (m : Message) : Keeps s (s.resetDevice m) := by
  unfold State.resetDevice
  split
  · exact softReset_keeps
  · exact .same rfl

theorem releaseReset_keeps (baud : BitVec 2) (atn : BitVec 8) : Keeps s (s.releaseReset baud atn) := by
  unfold State.releaseReset
  split
  · exact .same (by simp)
  · exact .refl s

/-! ### Steps that are due -/

theorem carryOut_keeps (m : Message) : Keeps s (s.carryOut m) := by
  unfold State.carryOut
  cases kindNamed (kindOf m) with
  | none => exact .same rfl
  | some k =>
    cases k with
    | resetDevice => exact resetDevice_keeps m
    | _ => exact .same (by simp)

theorem takeRequest_keeps : Keeps s s.takeRequest := by
  unfold State.takeRequest
  repeat' split
  · exact .refl s
  · exact Keeps.trans (.same (by simp)) (carryOut_keeps _)
  · exact .refl s

theorem takeDue_keeps (d : Due) : Keeps s (s.takeDue d) := by
  cases d with
  | request => exact takeRequest_keeps
  | frame | admission | report | change | release => exact .same (by simp [State.takeDue])

theorem drainTo_keeps (moment : State → Nat) (n : Nat) : Keeps s (State.drainTo moment n s) := by
  induction n generalizing s with
  | zero => exact .refl s
  | succ n ih =>
    unfold State.drainTo
    split
    · exact .refl s
    · exact (takeDue_keeps _).trans ih

theorem before_keeps (effect : State → State) : Keeps s (s.before effect) := drainTo_keeps _ _

theorem upTo_keeps (d : Due) : Keeps s (s.upTo d) := by
  have h : ∀ n {t : State}, Keeps t (State.upToWithin d n t) := by
    intro n
    induction n with
    | zero => exact Keeps.refl _
    | succ n ih =>
      intro t
      unfold State.upToWithin
      repeat' split
      · exact .refl t
      · exact .refl t
      · exact (takeDue_keeps _).trans ih
  exact h _

end

/-! ## The commands -/

/-- Where the command goes on to a next state, scratch memory keeps its form. -/
def Safe (s : State) (o : Host.Outcome State Fault Refusal) : Prop := ∀ t, o = .next t → Keeps s t

section
variable {s t : State}

theorem safe_next (h : Keeps s t) : Safe s (.next t) := by
  rintro _ e
  cases e
  exact h

/-- An event whose effect leaves scratch memory keeps its form, and so does what was due before it. -/
theorem safe_event {effect : State → State} (he : ∀ t, (effect t).bus.scratch = t.bus.scratch) : Safe s (.next (s.event effect)) := by
  refine safe_next ?_
  unfold State.event
  split
  · exact .refl s
  · exact (before_keeps effect).trans (.same (he _))

theorem safe_kind {k : Option RequestKind} {body : State → Message → State} (hb : ∀ t m, Keeps t (body t m)) :
    Safe s (.next (s.takeKind k body)) := by
  refine safe_next ?_
  unfold State.takeKind
  repeat' split
  · exact .refl s
  · exact Keeps.trans (.same (by simp)) (hb _ _)
  · exact .refl s

theorem safe_frame {wanted : List Byte → Bool} {effect : State → List Byte → State}
    (he : ∀ t g, (effect t g).bus.scratch = t.bus.scratch) : Safe s (.next (s.takeFrame wanted effect)) :=
  safe_next (.same (scratch_takeFrame s wanted he))

theorem scratchAccessCompletion_safe : Safe s (execScratchAccessCompletion s) := by
  unfold execScratchAccessCompletion
  split
  · exact safe_next (.refl s)
  · dsimp only
    split
    · exact safe_next ((before_keeps _).trans (finishScratch_keeps ‹_›))
    · rintro t e
      cases e

theorem breqAsserted_safe : Safe s (execBreqAsserted s) := by
  unfold execBreqAsserted
  split
  · exact safe_next (.same rfl)
  · exact safe_event (by simp)

theorem breqDeasserted_safe : Safe s (execBreqDeasserted s) := by
  unfold execBreqDeasserted
  split
  · exact safe_next (.same rfl)
  · exact safe_event (by simp)

theorem changeRecognised_safe (l : Fin 8) : Safe s (execChangeRecognised l s) := by
  unfold execChangeRecognised
  split
  · exact safe_next (.refl s)
  · exact safe_next ((upTo_keeps _).trans (.same (scratch_recogniseLine _ l)))

end

theorem exec_safe (i : Instr) (s : State) : Safe s (exec i s) := by
  cases i with
  | submit | cancel | flush | configureWindow | clearFault | setupAttention | acknowledgeAttention | hold | resume | setSharing
  | setLink | queryDevice | queryWindow | queryTransaction | queryAttention | queryLink | unknownRequest =>
    exact safe_kind fun t m => .same (by simp)
  | resetDevice => exact safe_kind fun _ => resetDevice_keeps
  | dataFrame | ackFrame | nakFrame | resync | crcError => exact safe_frame (by simp)
  | hostResyncReply | unknownControlFrame => exact safe_frame fun _ _ => rfl
  | gapError | ackRequested | frameTransmitEnd | retransmissionTimeout | announceTimer | shareOverrunRaise | grant | recoveryEnd
  | accessCompletion | readyTimeout | pollTimerExpiry | delayExpiry | waitTimeout | attentionInputChange | bgntAssertion =>
    exact safe_event (by simp)
  | byteReceived => exact safe_event fun _ => rfl
  | reportTake => exact safe_next ((upTo_keeps .report).trans (.same (by simp)))
  | reportAdmission => exact safe_next ((upTo_keeps .admission).trans (.same (by simp)))
  | scratchAccessCompletion => exact scratchAccessCompletion_safe
  | changeRecognised l => exact changeRecognised_safe l
  | breqAsserted => exact breqAsserted_safe
  | breqDeasserted => exact breqDeasserted_safe
  | powerOnReset => exact safe_next powerOn_keeps
  | pinReset => exact safe_next (resetBlocks_keeps _ _ _)
  | resetRelease baud atn => exact safe_next (releaseReset_keeps baud atn)

/-- Settles O8: no command and no tick writes scratch memory but a completed write within the 512 bytes and a reset. -/
theorem scratchStaysCanonical : Obligations.ScratchStaysCanonical := by
  intro s t hs h
  unfold step at h
  split at h
  · cases h
    exact (before_keeps State.nextTick).trans (.same rfl) hs
  · exact exec_safe _ _ t h hs

end Sys2Proof.ScratchMemory
end

section
namespace Sys2Proof.ScratchMemory

open Sys2Proof Sys2Proof.Machine

/-! ## Units of scratch memory (R62) -/

section
variable {m : List Host.Cell}

theorem scratchRising_of_wf (h : scratchWf m = true) : scratchRising 0 m = true := (Bool.and_eq_true_iff.mp h).1

/-- At width 8 the unit at an address is the byte there, and no other byte is written. -/
theorem scratchRead_writeUnit_w8 (h : scratchRising 0 m = true) (addr value : Word) (b : Nat) :
    scratchRead (scratchWriteUnit m .w8 addr value) b = if b = addr.toNat then value.setWidth 8 else scratchRead m b :=
  scratchRead_scratchWrite h ..

/-- At width 16 the unit at an address is two bytes, the low one first, and no other byte is written. -/
theorem scratchRead_writeUnit_w16 (h : scratchRising 0 m = true) (addr value : Word) (b : Nat) :
    scratchRead (scratchWriteUnit m .w16 addr value) b =
      if b = 2 * addr.toNat then value.setWidth 8
      else if b = 2 * addr.toNat + 1 then (value >>> 8).setWidth 8
      else scratchRead m b := by
  have hlow := scratchRising_scratchWrite h (Nat.zero_le (2 * addr.toNat)) (value.setWidth 8)
  have hread := scratchRead_scratchWrite hlow (2 * addr.toNat + 1) b ((value >>> 8).setWidth 8)
  rw [scratchRead_scratchWrite h] at hread
  unfold scratchWriteUnit
  dsimp only
  rw [hread]
  by_cases hb : b = 2 * addr.toNat
  · rw [if_neg (by omega), if_pos hb, if_pos hb]
  · rw [if_neg hb, if_neg hb]

/-- A unit is its low byte and its high byte. -/
theorem wordOf_bytes (v : Word) : wordOf (v.setWidth 8) ((v >>> 8).setWidth 8) = v := by
  have hlow : v.setWidth 8 = v.extractLsb' 0 8 := by ext i hi; simp
  have hhigh : (v >>> 8).setWidth 8 = v.extractLsb' 8 8 := by ext i hi; simp
  unfold wordOf
  rw [hlow, hhigh]
  exact (BitVec.extractLsb'_append_extractLsb'_eq_extractLsb' rfl).trans v.extractLsb'_eq_self

end

/-- Settles O21: a write of a unit is one or two writes of a byte, each of which leaves every other byte. -/
theorem scratchUnits : Obligations.ScratchUnits := by
  intro m addr value hm
  have hr := scratchRising_of_wf hm
  refine ⟨rfl, rfl, scratchRead_writeUnit_w8 hr addr value, scratchRead_writeUnit_w16 hr addr value, ?_⟩
  unfold scratchReadUnit
  simp [scratchRead_writeUnit_w16 hr, wordOf_bytes]

end Sys2Proof.ScratchMemory
end

section
namespace Sys2Proof.Windows

open Sys2Proof Sys2Proof.Machine

/-! PROOF. CONFIGURE WINDOW: the order of its checks (O30), and what an accepted one does (O29). -/

/-! ## Fields that are read back -/

@[simp] theorem yesNo_flagByte (b : Bool) : yesNo (flagByte b) = some b := by cases b <;> rfl

@[simp] theorem targetOf_byte (x : Target) : targetOf x.byte = some x := by cases x <;> rfl

@[simp] theorem widthOf_byte (x : Width) : widthOf x.byte = some x := by cases x <;> rfl

@[simp] theorem addressModeOf_byte (x : AddressMode) : addressModeOf x.byte = some x := by cases x <;> rfl

@[simp] theorem polarityOf_byte (x : Polarity) : polarityOf x.byte = some x := by cases x <;> rfl

@[simp] theorem readyModeOf_byte (x : ReadyMode) : readyModeOf x.byte = some x := by cases x <;> rfl

theorem windowOf_byteOf (w : Fin 6) : windowOf (byteOf w.val) = some w := by revert w; decide

/-- A number of a range is read back from a field that holds more than the range. -/
theorem within_mod {lo hi n k : Nat} (hlo : lo ≤ n) (hhi : n ≤ hi) (hk : hi < k) : within lo hi (n % k) = some n := by
  rw [Nat.mod_eq_of_lt (by omega)]
  exact if_pos ⟨hlo, hhi⟩

theorem byteAt_append (pre m : List Byte) (i : Nat) : byteAt (pre ++ m) (pre.length + i) = byteAt m i := by
  unfold byteAt
  rw [List.getD_append_right _ _ _ _ (Nat.le_add_right _ _), Nat.add_sub_cancel_left]

/-- A profile is read where it stands. -/
theorem profileAt_append (pre m : List Byte) : profileAt (pre ++ m) pre.length = profileAt m 0 := by
  have h0 : byteAt (pre ++ m) pre.length = byteAt m 0 := byteAt_append pre m 0
  simp only [profileAt, wordAt, byteAt_append, h0, Nat.add_assoc, Nat.zero_add]

/-- A profile whose fields lie in their ranges is read back from its 19 bytes (Table 3-3). -/
theorem profileAt_bytes {p : Profile} (h : p.inRange = true) (pre post : List Byte) :
    profileAt (pre ++ p.bytes ++ post) pre.length = some p := by
  simp only [Profile.inRange, decide_eq_true_eq] at h
  obtain ⟨ha, ha', hph, hph', hse, hst, hst', hho, hre, hli, hli', hq, hq'⟩ := h
  rw [List.append_assoc, profileAt_append]
  simp [-BitVec.setWidth_ofNat_of_le, profileAt, Profile.bytes, natBytes, wordBytes, wordAt, byteAt, byteOf,
    ScratchMemory.wordOf_bytes, within_mod, *]

end Sys2Proof.Windows
end

section
namespace Sys2Proof.Windows

open Sys2Proof Sys2Proof.Machine

/-! ## Requests and their checks -/

section
variable {s t : State} {m : Message} {rest : List Message} {c : Instr} {kind : Byte} {object : List Byte}
  {checks : List (Bool × ResultCode)} {code : ResultCode}

theorem firstFailure_cons (b : Bool) (code : ResultCode) (checks : List (Bool × ResultCode)) :
    firstFailure ((b, code) :: checks) = if b then some code else firstFailure checks := by
  cases b <;> rfl

theorem firstFailure_nil : firstFailure [] = none := rfl

/-- A request with a check that fails is settled by its refusal. -/
theorem refusedFirst_of_failure (hf : firstFailure checks = some code)
    (he : exec c s = .next (s.answered rest kind code (if code = .badFormat then [] else object))) :
    s.refusedFirst c kind rest object checks := by
  refine ⟨fun _ h => ?_, fun h => ?_⟩
  · rw [hf] at h
    exact Option.some.inj h ▸ he
  · rw [hf] at h
    cases h

/-- A request with no check that fails is settled by its acceptance. -/
theorem refusedFirst_of_pass (hf : firstFailure checks = none) (he : exec c s = .next t)
    (ha : t.dsp.slot.map Reply.code = some .accepted) : s.refusedFirst c kind rest object checks := by
  refine ⟨fun _ h => ?_, fun _ => ⟨t, he, ha⟩⟩
  rw [hf] at h
  cases h

/-- An answer to the request just taken, with nothing else changed by it. -/
theorem reply_pop (h : s.dsp.holdWait = none) (k : Byte) (c : ResultCode) (body : List Byte) :
    (s.pop rest).reply k c body = s.answered rest k c body := by
  simp [State.reply, State.formReply, State.pop, State.answered, h]

theorem queue_pop (s : State) (rest : List Message) (w : Fin 6) : (s.pop rest).queue w = s.queue w := rfl

theorem kindOf_eq (m : Message) : kindOf m = m.headD 0#8 := by cases m <;> rfl

theorem windowOf_eq_none_iff (b : Byte) : windowOf b = none ↔ 5 < b.toNat := by
  unfold windowOf
  split <;> simp <;> omega

theorem windowOf_of_le {b : Byte} (h : b.toNat ≤ 5) : windowOf b = some (Fin.ofNat 6 b.toNat) := by
  have hmod : b.toNat % 6 = b.toNat := Nat.mod_eq_of_lt (by omega)
  unfold windowOf
  rw [dif_pos (by omega)]
  exact congrArg some (Fin.ext hmod.symm)

theorem yesNo_eq_none_iff (b : Byte) : yesNo b = none ↔ 1 < b.toNat := by
  revert b
  decide

end

/-! ## CONFIGURE WINDOW (R58, R59) -/

/-- The combinations of R59. -/
theorem legal_eq_false_iff (p : Profile) : p.legal = false ↔
    (p.target = .pins ∧ p.width = .w8 ∧ p.addressMode = .single ∧ 8 < p.addressBits) ∨
    (p.target = .scratch ∧ p.width = .w8 ∧ 9 < p.addressBits) ∨ (p.target = .scratch ∧ p.width = .w16 ∧ 8 < p.addressBits) := by
  unfold Profile.legal
  split <;> simp [*]

section
variable {s : State} {m : Message} {rest : List Message} {w : Fin 6} {p : Profile} {enable : Bool}

theorem formatOk_configureWindow (m : Message) : RequestKind.configureWindow.formatOk m = true ↔ m.length = 22 := decide_eq_true_iff

theorem configureWindow_of_length (hlen : m.length ≠ 22) : s.configureWindow m = s.refuseFormat m := by
  unfold State.configureWindow
  rw [if_neg (mt (formatOk_configureWindow m).mp hlen)]

theorem configureWindow_of_no_window (hlen : m.length = 22) (hw : windowOf (byteAt m 1) = none) :
    s.configureWindow m = s.refuse .configureWindow m .badWindow := by
  unfold State.configureWindow
  rw [if_pos ((formatOk_configureWindow m).mpr hlen), hw]

theorem configureWindow_of_no_value (hlen : m.length = 22) (hw : windowOf (byteAt m 1) = some w)
    (hv : profileAt m 2 = none ∨ yesNo (byteAt m 21) = none) : s.configureWindow m = s.refuse .configureWindow m .badValue := by
  unfold State.configureWindow
  rw [if_pos ((formatOk_configureWindow m).mpr hlen), hw]
  rcases hv with hp | he
  · rw [hp]
  · rw [he]
    cases profileAt m 2 <;> rfl

/-- With every field in its range two checks are left: a legal combination and an empty queue. -/
theorem configureWindow_of_values (hlen : m.length = 22) (hw : windowOf (byteAt m 1) = some w) (hp : profileAt m 2 = some p)
    (he : yesNo (byteAt m 21) = some enable) :
    s.configureWindow m = if p.legal = false then s.refuse .configureWindow m .badValue
      else if s.queue w ≠ [] then s.refuse .configureWindow m .busy
      else (s.configure w p enable).accept .configureWindow [byteAt m 1, flagByte enable] := by
  unfold State.configureWindow
  rw [if_pos ((formatOk_configureWindow m).mpr hlen), hw, hp, he]

theorem exec_configureWindow (h : s.offers m rest) (hk : m.headD 0#8 = 0x04#8) :
    exec .configureWindow s = .next ((s.pop rest).configureWindow m) := by
  obtain ⟨hm, hidle⟩ := h
  have hkind : kindNamed (kindOf m) = some .configureWindow := by
    rw [kindOf_eq, hk]
    decide
  exact congrArg Host.Outcome.next (takeKind_of hm (dispatcherIdle_iff.mpr hidle) hkind)

/-- A refusal of the CONFIGURE WINDOW just taken names its window as received (R148). -/
theorem refuse_configureWindow (h : s.dsp.holdWait = none) (code : ResultCode) :
    (s.pop rest).refuse .configureWindow m code = s.answered rest 0x04#8 code [byteAt m 1] := reply_pop h ..

end

/-- Settles O30: the model goes through the same checks in the same order. -/
theorem configureCheckOrder : Obligations.ConfigureCheckOrder := by
  refine ⟨legal_eq_false_iff, fun s m rest h hk => ?_⟩
  have hexec := exec_configureWindow h hk
  obtain ⟨-, -, hwait⟩ := h
  by_cases hlen : m.length = 22
  case neg =>
    refine refusedFirst_of_failure (code := .badFormat) (by simp [firstFailure_cons, hlen]) ?_
    rw [hexec, configureWindow_of_length hlen, State.refuseFormat, kindOf_eq, hk, reply_pop hwait]
    rfl
  by_cases hw : 5 < (byteAt m 1).toNat
  · refine refusedFirst_of_failure (code := .badWindow) (by simp [firstFailure_cons, hlen, hw]) ?_
    rw [hexec, configureWindow_of_no_window hlen ((windowOf_eq_none_iff _).mpr hw), refuse_configureWindow hwait]
    rfl
  have hwindow := windowOf_of_le (Nat.not_lt.mp hw)
  generalize Fin.ofNat 6 (byteAt m 1).toNat = w at hwindow ⊢
  by_cases hv : profileAt m 2 = none ∨ 1 < (byteAt m 21).toNat
  · refine refusedFirst_of_failure (code := .badValue) (by simp [firstFailure_cons, hlen, hw, hv]) ?_
    rw [hexec, configureWindow_of_no_value hlen hwindow (hv.imp_right (yesNo_eq_none_iff _).mpr), refuse_configureWindow hwait]
    rfl
  obtain ⟨hsome, hflag⟩ := not_or.mp hv
  obtain ⟨p, hp⟩ := Option.ne_none_iff_exists'.mp hsome
  obtain ⟨enable, he⟩ := Option.ne_none_iff_exists'.mp (mt (yesNo_eq_none_iff _).mp hflag)
  have hvalues := configureWindow_of_values (s := s.pop rest) hlen hwindow hp he
  rw [queue_pop] at hvalues
  by_cases hl : p.legal = false
  · refine refusedFirst_of_failure (code := .badValue) (by simp [firstFailure_cons, hlen, hw, hp, hl]) ?_
    rw [hexec, hvalues, if_pos hl, refuse_configureWindow hwait]
    rfl
  by_cases hq : s.queue w = []
  · refine refusedFirst_of_pass (by simp [firstFailure_cons, firstFailure_nil, hlen, hw, hflag, hp, hl, hq]) hexec ?_
    rw [hvalues, if_neg hl, if_neg (not_not.mpr hq)]
    rfl
  · refine refusedFirst_of_failure (code := .busy) (by simp [firstFailure_cons, hlen, hw, hflag, hp, hl, hq]) ?_
    rw [hexec, hvalues, if_neg hl, if_pos hq, refuse_configureWindow hwait]
    rfl

/-! ## An accepted CONFIGURE WINDOW (R60) -/

/-- The recovery timer of R60 by its three causes of a change. -/
theorem configuredRecovery_eq (s : State) (w : Fin 6) (p : Profile) :
    s.configuredRecovery w p =
      if (s.window w).profile.target = .pins ∧ p.target = .scratch then none
      else if (s.window w).profile.csPolarity ≠ p.csPolarity ∧ s.bus.ownership = .owned then some s.now
      else if (s.window w).profile.target = .scratch ∧ p.target = .pins then none
      else s.bus.recovery[w] := by
  unfold State.configuredRecovery
  dsimp only
  split <;> simp [*]

/-- What an accepted CONFIGURE WINDOW does to a window with an empty queue. -/
theorem configure_of_empty {s : State} {w : Fin 6} (hq : s.queue w = []) (p : Profile) (enable : Bool) :
    s.configure w p enable =
      { (s.setWindow w { state := if enable then .enabled else .disabled, profile := p, queue := [] }) with
        bus.recovery := s.bus.recovery.set w.val (s.configuredRecovery w p) w.isLt } := by
  rw [← hq]
  rfl

theorem configure_pop (s : State) (rest : List Message) (w : Fin 6) (p : Profile) (enable : Bool) :
    (s.pop rest).configure w p enable = (s.configure w p enable).pop rest := rfl

/-- Settles O29: the message reads back as its window, profile and flag, and passes every check. -/
theorem configureAccepted : Obligations.ConfigureAccepted := by
  intro s rest w p enable h hr hl hq
  have ⟨_, _, hwait⟩ := h
  dsimp only
  rw [← configuredRecovery_eq]
  have hw : windowOf (byteAt ([0x04#8, byteOf w.val] ++ p.bytes ++ [flagByte enable]) 1) = some w := windowOf_byteOf w
  have hp := profileAt_bytes hr [0x04#8, byteOf w.val] [flagByte enable]
  have he : yesNo (byteAt ([0x04#8, byteOf w.val] ++ p.bytes ++ [flagByte enable]) 21) = some enable := yesNo_flagByte enable
  have hvalues := configureWindow_of_values (s := s.pop rest) rfl hw hp he
  rw [queue_pop, if_neg (by simp [hl]), if_neg (not_not.mpr hq), configure_pop] at hvalues
  rw [exec_configureWindow h rfl, hvalues, State.accept, reply_pop (s := s.configure w p enable) hwait, configure_of_empty hq]
  rfl

end Sys2Proof.Windows
end

section
namespace Sys2Proof.Scheduling

open Sys2Proof Sys2Proof.Machine Sys2Proof.Operations

/-! PROOF. The Scheduler (O33, O47, O51, O56): the grant, the park timers, the end of a recovery time, and the hold flag. A command that is
an event of the outside has its effect on a part that is quiet to its moment (`exec_of_event`); what is left is one lemma for each case
of each effect. -/

/-- The command of an event has its effect on a part that is quiet to the moment to which the effect brings the clock. -/
theorem exec_of_event {c : Instr} {s t : State} {effect : State → State} (hc : exec c s = .next (s.event effect)) (he : effect s = t)
    (hq : s.quietTo t.now = true) : exec c s = .next t := by
  rw [hc, event_of_quietTo (by rw [he]; exact hq), he]

/-! ## Candidates and their groups (R66, R67, Table 4–2) -/

section
variable {s : State} {w : Fin 6} {r : Record} {g : Nat}

/-- No bus-side record has a smaller epoch (R22, R67). -/
theorem startCondition_iff (s : State) (r : Record) : s.startCondition r = true ↔
    ∀ q ∈ s.busSide, ¬ (1 ≤ (r.epoch - q.epoch).toNat ∧ (r.epoch - q.epoch).toNat ≤ 32767) := by
  simp only [State.startCondition, epochLess, List.all_eq_true, Bool.not_eq_true', decide_eq_false_iff_not]

theorem group_of_head (hr : s.head w = some r) : s.group w =
    if r.state = .ready then some (if r.cls = .urgent then 1 else 3)
    else if r.state = .queued ∧ (s.window w).state = .enabled ∧ s.startCondition r = true then
      some (if r.cls = .urgent then 2 else 4)
    else none := by
  unfold State.group
  rw [hr]
  cases hst : r.state <;> simp [hst]

theorem group_of_no_head (hr : s.head w = none) : s.group w = none := by
  simp [State.group, hr]

theorem group_mem (hg : s.group w = some g) : g ∈ [1, 2, 3, 4] := by
  cases hr : s.head w with
  | none => simp [group_of_no_head hr] at hg
  | some r =>
    rw [group_of_head hr] at hg
    split at hg
    · cases hg; split <;> decide
    · split at hg
      · cases hg; split <;> decide
      · cases hg

/-! ## The Scheduler's choice (R68) -/

/-- In a list that rises in a measure, the first element that passes a test is the one of least measure that does. -/
theorem find?_of_least {α : Type} {d : α → Nat} {passes : α → Bool} {x : α} {l : List α} (hl : l.Pairwise fun a b => d a < d b)
    (hx : x ∈ l) (hp : passes x = true) (hleast : ∀ y, passes y = true → d x ≤ d y) : l.find? passes = some x := by
  induction l with
  | nil => cases hx
  | cons y l ih =>
    rw [List.pairwise_cons] at hl
    obtain ⟨hlt, htail⟩ := hl
    rcases List.mem_cons.mp hx with rfl | hx
    · exact List.find?_cons_of_pos hp
    · have hy : ¬ passes y = true := fun h => Nat.not_lt.mpr (hleast y h) (hlt x hx)
      rw [List.find?_cons_of_neg hy]
      exact ih htail hx

/-- The windows from the one after the pointer on, in the order of their distance from it. -/
theorem cyclicFrom_rises (p : Fin 6) : (cyclicFrom p).Pairwise fun a b => (a - p - 1).val < (b - p - 1).val := by
  revert p
  decide

theorem mem_cyclicFrom (p w : Fin 6) : w ∈ cyclicFrom p := by
  revert p w
  decide

/-- The search of R68 passes the empty groups and ends in the lowest group that holds a candidate. -/
theorem choice_eq (hg : s.group w = some g) (hlow : ∀ v h, s.group v = some h → g ≤ h)
    (hnear : ∀ v, s.group v = some g → (w - s.sch.pointer - 1).val ≤ (v - s.sch.pointer - 1).val) : s.choice = some w := by
  have hfound : (cyclicFrom s.sch.pointer).find? (fun v => decide (s.group v = some g)) = some w :=
    find?_of_least (cyclicFrom_rises _) (mem_cyclicFrom _ w) (decide_eq_true hg) fun v hv => hnear v (of_decide_eq_true hv)
  have hempty : ∀ h < g, (cyclicFrom s.sch.pointer).find? (fun v => decide (s.group v = some h)) = none := by
    intro h hh
    refine List.find?_eq_none.mpr fun v _ hv => ?_
    exact Nat.not_lt.mpr (hlow v h (of_decide_eq_true hv)) hh
  have hmem := group_mem hg
  simp only [List.mem_cons, List.not_mem_nil, or_false] at hmem
  unfold State.choice
  rcases hmem with rfl | rfl | rfl | rfl <;> simp only [List.findSome?_cons, hfound, hempty, Nat.reduceLT]

theorem choice_of_no_candidate (h : ∀ w, s.group w = none) : s.choice = none := by
  simp [State.choice, h]

/-! ## The grant (R68, R69) -/

/-- With a grant standing, the bus not usable or no candidate there is no choice to make. -/
theorem makeChoice_stays (h : s.sch.grant ≠ none ∨ s.sch.hold = true ∨ s.bus.ownership = .released ∨ ∀ w, s.group w = none)
    (starts : Bool) : s.makeChoice starts = s := by
  unfold State.makeChoice State.engineIdle State.usable
  rcases h with h | h | h | h
  · simp [h]
  · simp [h]
  · simp [h]
  · simp [choice_of_no_candidate h]

theorem makeChoice_grants (hgrant : s.sch.grant = none) (hhold : s.sch.hold = false) (howned : s.bus.ownership = .owned)
    (hchoice : s.choice = some w) (starts : Bool) : s.makeChoice starts = (s.reach (s.spacedFrom w)).grantTo starts w := by
  simp [State.makeChoice, State.engineIdle, State.usable, hgrant, hhold, howned, hchoice]

theorem grantTo_of_head (hr : s.head w = some r) (starts : Bool) : s.grantTo starts w =
    State.settle (State.setHead { s with sch.grant := some w, sch.pointer := w, sch.slice := 0, bus.prevUnit := none } w
      { r with state := .running }) starts w .unit := by
  unfold State.grantTo
  rw [hr]

theorem grantTo_now (s : State) (starts : Bool) (w : Fin 6) : (s.grantTo starts w).now = s.now := by
  unfold State.grantTo
  split <;> simp

/-- After a DELAY, at a pin target whose recovery timer runs, the grant keeps the spacing of R40 (log entry 34). -/
theorem spacedFrom_eq (s : State) (w : Fin 6) : max s.now (s.spacedFrom w) =
    match (s.window w).profile.target, s.bus.recovery[w], s.sch.delayEnds[w] with
    | .pins, some _, some d => max s.now (d + (s.window w).profile.recovery)
    | .pins, some _, none | .pins, none, _ | .scratch, _, _ => s.now := by
  unfold State.spacedFrom
  cases ht : (s.window w).profile.target with
  | scratch => simp [recoveryEnds_of_scratch ht]
  | pins =>
    rw [recoveryEnds_of_pins ht]
    cases s.bus.recovery[w] with
    | none => simp
    | some t => cases s.sch.delayEnds[w] <;> simp

end

/-- Settles O47: the group of a head by its state, the windows that no grant can go to, and the grant to the window that the search of R68
finds. -/
theorem grant : Obligations.Grant := by
  intro s may
  refine ⟨fun w r hr => ?_, fun w hr => group_of_no_head hr, fun starts => ⟨fun hq h => ?_, ?_⟩⟩
  · simp only [group_of_head hr, startCondition_iff, may]
  · exact exec_of_event rfl (makeChoice_stays h starts) hq
  · intro w r g hgrant hhold howned hr hg hlow hnear p u hq
    have hu : u = s.reach (s.spacedFrom w) := congrArg (fun n => { s with now := n }) (spacedFrom_eq s w).symm
    have hhead : u.head w = some r := hr
    have hchoice := choice_eq hg hlow hnear
    have heffect : s.makeChoice starts = u.grantTo starts w := by rw [makeChoice_grants hgrant hhold howned hchoice, hu]
    rw [← grantTo_of_head hhead]
    exact exec_of_event rfl heffect (by rw [grantTo_now]; exact hq)

end Sys2Proof.Scheduling
end

section
namespace Sys2Proof.Scheduling

open Sys2Proof Sys2Proof.Machine Sys2Proof.Operations

/-! ## The park timers (R6, R75) -/

section
variable {s : State} {w : Fin 6} {r : Record} {op : Op} {d : Nat}

theorem parkTimer_of_timer (hr : s.head w = some r) (hst : r.state = .parked) (hop : r.op? = some op)
    (hw : r.wake = some (.timer d)) : s.parkTimer w = some (r, op, d) := by
  simp [State.parkTimer, hr, hst, hop, hw]

theorem parkTimer_of_attention {l : Fin 8} (hr : s.head w = some r) (hst : r.state = .parked) (hop : r.op? = some op)
    (hw : r.wake = some (.attention l (some d))) : s.parkTimer w = some (r, op, d) := by
  simp [State.parkTimer, hr, hst, hop, hw]

/-- Without a park timer none of the three expiries does anything (R6). -/
theorem expire_of_no_timer (h : s.parkTimer w = none) : s.expirePoll w = s ∧ s.expireDelay w = s ∧ s.expireWait w = s := by
  simp [State.expirePoll, State.expireDelay, State.expireWait, h]

/-- A POLL's timer makes its head READY for the next attempt (R76). -/
theorem expirePoll_eq {a m v : Word} {i k : Nat} (h : s.parkTimer w = some (r, .poll a m v i k, d)) :
    s.expirePoll w = (s.reach d).setHead w { r with state := .ready, wake := none } := by
  simp [State.expirePoll, h]

/-- A DELAY's timer ends it, and another operation is left (R77). -/
theorem expireDelay_of_more {i : Nat} (h : s.parkTimer w = some (r, .delay i, d)) (hmore : r.opIndex + 1 < r.ops.length) :
    s.expireDelay w = ((s.reach d).endDelay w d).setHead w { r.advance with state := .ready, wake := none } := by
  have hleft : r.advance.finished = false := finished_of_lt (r := r.advance) hmore
  simp [State.expireDelay, h, hleft]

/-- A DELAY's timer ends it, and it was the last operation (R77). -/
theorem expireDelay_of_last {i : Nat} (h : s.parkTimer w = some (r, .delay i, d)) (hlast : r.ops.length ≤ r.opIndex + 1) :
    s.expireDelay w = ((s.reach d).endDelay w d).retireHead w r.advance.endDone := by
  have hdone : r.advance.finished = true := (finished_iff r.advance).mpr hlast
  simp [State.expireDelay, h, hdone]

/-- A WAIT ATTENTION's deadline takes the waiter off its line and fails the operation (R39). -/
theorem expireWait_eq {l : Fin 8} {timeout : Nat} (h : s.parkTimer w = some (r, .waitAttention l timeout, d)) :
    s.expireWait w = ((s.reach d).dropWake r).failHead w r .waitTimeout timeout := by
  simp [State.expireWait, h]

theorem dropWake_of_attention {l : Fin 8} {deadline : Option Nat} (hw : r.wake = some (.attention l deadline)) :
    s.dropWake r = s.removeWaiter l r.tag := by
  simp [State.dropWake, hw]

/-- A WAIT_TIMEOUT is no hard failure: the window faults where its profile stops at any (R44, Table 2–2). -/
theorem failHead_of_waitTimeout (s : State) (w : Fin 6) (r : Record) (detail : Nat) :
    let t := s.retireHead w (r.endFailed .waitTimeout detail)
    s.failHead w r .waitTimeout detail =
      if (s.window w).profile.softStop = true then t.setWindow w { t.window w with state := .faulted } else t := by
  simp [failHead_eq]

end

/-- Settles O51: one lemma for each kind of timer, at the deadline that the timer brings the clock to. -/
theorem parkTimers : Obligations.ParkTimers := by
  intro s w
  refine ⟨fun hq h => ?_, fun r d hq hr hst => ?_⟩
  · obtain ⟨hpoll, hdelay, hwait⟩ := expire_of_no_timer h
    exact ⟨exec_of_event rfl hpoll hq, exec_of_event rfl hdelay hq, exec_of_event rfl hwait hq⟩
  refine ⟨fun a m v i k hop hw => ?_, fun i hop hw => ?_, fun l timeout hop hw => ?_⟩
  · exact exec_of_event rfl (expirePoll_eq (parkTimer_of_timer hr hst hop hw)) (by simpa [reach_now] using hq)
  · have htimer := parkTimer_of_timer hr hst hop hw
    refine ⟨fun hmore => ?_, fun hlast => ?_⟩
    · exact exec_of_event rfl (expireDelay_of_more htimer hmore) (by simpa [State.endDelay, reach_now] using hq)
    · exact exec_of_event rfl (expireDelay_of_last htimer hlast) (by simpa [State.endDelay, reach_now] using hq)
  · have heffect := expireWait_eq (parkTimer_of_attention hr hst hop hw)
    rw [dropWake_of_attention hw, failHead_of_waitTimeout] at heffect
    refine exec_of_event rfl heffect ?_
    split <;> simpa [reach_now] using hq

end Sys2Proof.Scheduling
end

section
namespace Sys2Proof.Scheduling

open Sys2Proof Sys2Proof.Machine Sys2Proof.Operations

/-! ## The end of a recovery time (R55, R69, R92) -/

section
variable {s : State} {w : Fin 6} {r : Record}

/-- The state at the end of window `w`'s recovery time; where it has none to end, the state as it stands. -/
def recovered (s : State) (w : Fin 6) : State := s.reach ((s.recoveryEnds w).getD 0)

theorem endRecovery_eq (s : State) (w : Fin 6) : s.endRecovery w = (recovered s w).beginWaiting w := by
  unfold State.endRecovery recovered
  cases s.recoveryEnds w with
  | none => simp [State.reach]
  | some t => rfl

/-- At the end of a recovery time it places no constraint any more (R92). -/
theorem recovering_recovered (s : State) (w : Fin 6) : (recovered s w).recovering w = false := by
  refine Bool.eq_false_iff.mpr fun hrec => ?_
  obtain ⟨t, ht, hlt⟩ := recovering_iff.mp hrec
  have hends : s.recoveryEnds w = some t := ht
  rw [recovered, hends, reach_now] at hlt
  exact Nat.not_lt.mpr (Nat.le_max_right s.now t) hlt

theorem recovered_now (s : State) (w : Fin 6) : (recovered s w).now =
    match (s.window w).profile.target, s.bus.recovery[w] with
    | .pins, some t => max s.now (t + (s.window w).profile.recovery)
    | .pins, none | .scratch, _ => s.now := by
  unfold recovered
  cases ht : (s.window w).profile.target with
  | scratch => simp [recoveryEnds_of_scratch ht, reach_now]
  | pins =>
    rw [recoveryEnds_of_pins ht]
    cases s.bus.recovery[w] <;> simp [reach_now]

/-- No access of window `w` waits to begin. -/
theorem beginWaiting_stays
    (h : (∀ r, s.running ≠ some (w, r)) ∨ s.bus.access ≠ none ∨ s.sch.hold = true ∨ s.bus.ownership = .released) :
    s.beginWaiting w = s := by
  unfold State.beginWaiting State.usable
  split
  · rfl
  · rename_i v r hrun
    rcases h with h | h | h | h
    · have hv : v ≠ w := fun e => h r (e ▸ hrun)
      simp [hv]
    · simp [h]
    · simp [h]
    · simp [h]

theorem beginWaiting_begins (hrun : s.running = some (w, r)) (hacc : s.bus.access = none) (hhold : s.sch.hold = false)
    (howned : s.bus.ownership = .owned) (hrec : s.recovering w = false) : s.beginWaiting w = s.beginAccess w r := by
  simp [State.beginWaiting, State.usable, State.beginOrWait, hrun, hacc, hhold, howned, hrec]

end

/-- Settles O56: at the end of the recovery time nothing holds back the access that waited, if one did. -/
theorem recoveryEnd : Obligations.RecoveryEnd := by
  intro s w p u hq
  have hu : u = recovered s w := congrArg (fun n => { s with now := n }) (recovered_now s w).symm
  have heffect : s.endRecovery w = u.beginWaiting w := by rw [endRecovery_eq, hu]
  refine ⟨fun h => ?_, fun r hrun hacc hhold howned => ?_⟩
  · have hstays : u.beginWaiting w = u := beginWaiting_stays h
    exact exec_of_event rfl (heffect.trans hstays) hq
  · have hrec : u.recovering w = false := by rw [hu]; exact recovering_recovered s w
    have hbegins : u.beginWaiting w = u.beginAccess w r := beginWaiting_begins hrun hacc hhold howned hrec
    exact exec_of_event rfl (heffect.trans hbegins) (by simpa using hq)

end Sys2Proof.Scheduling
end

section
namespace Sys2Proof.Scheduling

open Sys2Proof Sys2Proof.Machine Sys2Proof.Operations

/-! ## HOLD and RESUME (R81 to R84) -/

section
variable {s : State} {rest : List Message} {w : Fin 6} {r : Record}

theorem exec_hold (h : s.offers [0x08#8] rest) : exec .hold s = .next ((s.pop rest).holdRequest [0x08#8]) := by
  obtain ⟨hm, hidle⟩ := h
  exact congrArg Host.Outcome.next (takeKind_of hm (dispatcherIdle_iff.mpr hidle) (by decide))

theorem exec_resume (h : s.offers [0x09#8] rest) : exec .resume s = .next ((s.pop rest).resumeRequest [0x09#8]) := by
  obtain ⟨hm, hidle⟩ := h
  exact congrArg Host.Outcome.next (takeKind_of hm (dispatcherIdle_iff.mpr hidle) (by decide))

/-- The hold flag is found set (R83). -/
theorem holdRequest_of_held (h : s.sch.hold = true) : s.holdRequest [0x08#8] = s.reply 0x08#8 .accepted [1#8] := by
  unfold State.holdRequest
  rw [if_pos (by decide), if_pos h]
  rfl

/-- The hold flag is found clear (R81). -/
theorem holdRequest_of_clear (h : s.sch.hold = false) : s.holdRequest [0x08#8] = s.holdClear := by
  unfold State.holdRequest
  rw [if_pos (by decide), if_neg (by simp [h])]

theorem holdClear_of_access {a : Access} (ha : s.bus.access = some a) :
    s.holdClear = { s with sch.hold := true, dsp.holdWait := some s.dsp.count } := by
  simp [State.holdClear, ha]

theorem holdClear_of_no_access (ha : s.bus.access = none) :
    s.holdClear = (State.settleWaiting { s with sch.hold := true }).reply 0x08#8 .held [0#8] := by
  unfold State.holdClear
  rw [if_pos ha]
  rfl

theorem resumeRequest_of_held (h : s.sch.hold = true) :
    s.resumeRequest [0x09#8] = State.reply { s with sch.hold := false } 0x09#8 .accepted [] := by
  unfold State.resumeRequest
  rw [if_pos (by decide), if_pos h]
  rfl

theorem resumeRequest_of_clear (h : s.sch.hold = false) : s.resumeRequest [0x09#8] = s.reply 0x09#8 .notHeld [] := by
  unfold State.resumeRequest
  rw [if_pos (by decide), if_neg (by simp [h])]
  rfl

/-! ### The transaction that waits at a boundary (R82) -/

theorem settleWaiting_of_idle (h : s.running = none) : s.settleWaiting = s := by
  simp [State.settleWaiting, h]

theorem settleWaiting_of_running (hrun : s.running = some (w, r)) (ha : s.bus.access = none) :
    s.settleWaiting = s.settle true w .unit := by
  simp [State.settleWaiting, hrun, ha]

theorem setHead_of_head (hr : s.head w = some r) (r' : Record) : s.setHead w r' = s.setQueue w (r' :: (s.queue w).tail) := by
  unfold State.setHead
  rw [Records.queue_of_head hr]
  rfl

theorem dropGrant_of_granted (h : s.sch.grant = some w) : s.dropGrant w = { s with sch.grant := none } := by
  simp [State.dropGrant, h]

/-- Under the hold flag a transaction whose next access has not begun becomes READY at its boundary (R41, R82), where a request for
the bus is then met (R101). -/
theorem settleWaiting_of_hold {op : Op} (hhold : s.sch.hold = true) (hrun : s.running = some (w, r)) (ha : s.bus.access = none)
    (habort : r.abort = none) (hop : r.op? = some op) (hacc : (op.access? r.unitIndex).isSome = true) :
    s.settleWaiting = State.releaseAt { (s.setHead w { r with state := .ready }) with sch.grant := none } w := by
  obtain ⟨hgrant, hr, -⟩ := Records.running_spec hrun
  have hgranted : (s.setHead w { r with state := .ready }).sch.grant = some w := by simpa using hgrant
  rw [settleWaiting_of_running hrun ha, settle_of_head hr, settleUpTo_of_access hr (.inl rfl) habort hop hacc (by simp),
    yieldOrGo_yields (.inl hhold), State.yieldHead, dropGrant_of_granted hgranted]

/-! ### The taking of the message stands beside what the request does -/

theorem releaseAt_pop (s : State) (rest : List Message) (w : Fin 6) : (s.pop rest).releaseAt w = (s.releaseAt w).pop rest := by
  unfold State.releaseAt
  rw [apply_ite (fun t : State => t.pop rest)]
  rfl

/-- What the flag just set brings a transaction at a boundary to, with the HOLD's message taken (R82). -/
theorem settleWaiting_pop {op : Op} (hrun : s.running = some (w, r)) (ha : s.bus.access = none) (habort : r.abort = none)
    (hop : r.op? = some op) (hacc : (op.access? r.unitIndex).isSome = true) :
    State.settleWaiting { (s.pop rest) with sch.hold := true } =
      (State.releaseAt { (s.setHead w { r with state := .ready }) with sch.hold := true, sch.grant := none } w).pop rest := by
  obtain ⟨-, hr, -⟩ := Records.running_spec hrun
  have hsettle := settleWaiting_of_hold (s := { (s.pop rest) with sch.hold := true }) rfl hrun ha habort hop hacc
  rw [hsettle, ← releaseAt_pop, setHead_of_head (s := { (s.pop rest) with sch.hold := true }) hr, setHead_of_head hr]
  rfl

/-- A HOLD that waited for the access now over is answered with its own count (R81, R152). -/
theorem answerHold_of_waiting {count : Word} (h : s.dsp.holdWait = some count) : s.answerHold = { s with
    dsp.holdWait := none
    dsp.slot := some { kind := 0x08#8, count := count, code := .held, body := [0#8] } } := by
  unfold State.answerHold
  rw [h]
  rfl

end

/-- Settles O33: HOLD by the flag, the access in progress and the transaction that waits at a boundary; RESUME by the flag. -/
theorem holdAndResume : Obligations.HoldAndResume := by
  intro s rest
  refine ⟨fun h => ?_, fun h => ?_, fun count hcount => answerHold_of_waiting hcount⟩
  · have ⟨_, hslot, hwait⟩ := h
    rw [exec_hold h]
    refine ⟨fun hh => ?_, fun a hh ha => ?_, fun hh ha hrun => ?_, fun w r op hh ha hrun habort hop hacc => ?_⟩
    · rw [holdRequest_of_held (s := s.pop rest) hh, Windows.reply_pop hwait]
    · rw [holdRequest_of_clear (s := s.pop rest) hh, holdClear_of_access (s := s.pop rest) ha]
      simp [State.pop, hslot]
    · have hidle : State.running { (s.pop rest) with sch.hold := true } = none := hrun
      rw [holdRequest_of_clear (s := s.pop rest) hh, holdClear_of_no_access (s := s.pop rest) ha, settleWaiting_of_idle hidle]
      exact congrArg Host.Outcome.next (Windows.reply_pop (s := { s with sch.hold := true }) hwait ..)
    · rw [holdRequest_of_clear (s := s.pop rest) hh, holdClear_of_no_access (s := s.pop rest) ha,
        settleWaiting_pop hrun ha habort hop hacc, Windows.reply_pop (by simpa using hwait)]
  · have ⟨_, _, hwait⟩ := h
    rw [exec_resume h]
    refine ⟨fun hh => ?_, fun hh => ?_⟩
    · rw [resumeRequest_of_held (s := s.pop rest) hh]
      exact congrArg Host.Outcome.next (Windows.reply_pop (s := { s with sch.hold := false }) hwait ..)
    · rw [resumeRequest_of_clear (s := s.pop rest) hh, Windows.reply_pop hwait]

end Sys2Proof.Scheduling
end

section
namespace Sys2Proof.BusCycles

open Sys2Proof Sys2Proof.Machine Sys2Proof.Operations

/-! PROOF. Bus cycles and bus sharing (O34, O49, O53, O54, O57, O58): how an access begins, completes or times out, what its pins show,
and how the bus is released to the external master and comes back. -/

/-! ## The release of the bus at a boundary (R101) -/

section
variable {s : State} {w : Fin 6} {r : Record} {op : Op}

theorem displacedWindow_eq (s : State) (w : Fin 6) :
    s.displacedWindow w = if (s.head w).any (fun r => decide (r.state = .ready)) then some w else none := by
  unfold State.displacedWindow
  cases s.head w <;> simp

theorem requested_iff : s.requested = true ↔ s.bus.shareEnable = true ∧ s.breq = true := Bool.and_eq_true_iff

theorem releaseAt_eq (s : State) (w : Fin 6) : s.releaseAt w =
    if s.bus.shareEnable = true ∧ s.breq = true ∧ s.bus.ownership = .owned ∧ s.bus.access = none then
      s.releaseBus (s.displacedWindow w) else s := by
  simp [State.releaseAt, requested_iff, and_assoc]

/-! ## How an access begins (R25, R87, R88, R91, R97) -/

/-- An access is elided under R97 alone. -/
theorem elides_eq (p : Profile) (op : Op) (k i : Nat) (prev : Option (Nat × Nat)) : elides p op k i prev =
    decide (p.target = .pins ∧ p.addressMode ≠ .direct ∧ p.elide = true ∧ op.increments = true ∧ 0 < i ∧
      prev = some (k, i - 1)) := by
  rw [Bool.eq_iff_iff]
  simp [elides, and_assoc]

theorem beginAccess_of_op {kind : AccessKind} {addr value : Word} (hop : r.op? = some op)
    (hacc : op.access? r.unitIndex = some (kind, addr, value)) :
    let p := (s.window w).profile
    s.beginAccess w r = { s with bus := s.bus.begin p {
      window := w, kind := kind, addr := addr, value := maskUnit p.width value
      elided := elides p op r.opIndex r.unitIndex s.bus.prevUnit, start := s.now } } := by
  simp only [State.beginAccess, hop, hacc]

/-- A scratch access moves no pin; a pin access takes the polarities of its window, and in DIRECT mode puts its address on A. -/
theorem begin_eq (s : State) (p : Profile) (a : Access) : ({ s with bus := s.bus.begin p a } : State) =
    if p.target = .scratch then { s with bus.access := some a } else { s with
      bus.access := some a
      bus.aHeld := if p.addressMode = .direct then a.addr &&& BitVec.ofNat 16 (2 ^ p.addressBits - 1) else s.bus.aHeld
      bus.strobePolarity := p.strobePolarity
      bus.advPolarity := p.advPolarity } := by
  cases ht : p.target <;> simp [BusEngine.begin, ht, lowBits]

end

/-- Settles O49: the release asks for the request, the ownership and the end of the access; an access begins by its target. -/
theorem releaseAndBegin : Obligations.ReleaseAndBegin := by
  intro s w
  refine ⟨?_, fun r op kind addr value hop hacc => ?_⟩
  · rw [releaseAt_eq, displacedWindow_eq]
    rfl
  · intro p elided a
    have ha : ({ window := w, kind := kind, addr := addr, value := maskUnit p.width value
                 elided := elides p op r.opIndex r.unitIndex s.bus.prevUnit, start := s.now } : Access) = a := by
      rw [maskUnit_eq, elides_eq]
    rw [beginAccess_of_op hop hacc, ha]
    exact begin_eq s p a

end Sys2Proof.BusCycles
end

section
namespace Sys2Proof.BusCycles

open Sys2Proof Sys2Proof.Machine Sys2Proof.Operations Sys2Proof.Scheduling

/-! ## The external master's request is answered (R100, R101) -/

section
variable {s : State} {w : Fin 6} {r : Record} {op : Op}

/-- Nobody asks for the bus, or its release is left to a later boundary, or it has been released. -/
theorem answerRequest_stays (h : s.requested = false ∨ s.bus.access ≠ none ∨ (s.bus.ownership = .released ∧ s.running = none)) :
    s.answerRequest = s := by
  unfold State.answerRequest
  rcases h with hno | hacc | ⟨haway, hidle⟩
  · simp [hno]
  · cases hrun : s.running <;> simp [State.settleWaiting, hrun, hacc]
  · simp [haway, hidle]

/-- With no RUNNING transaction the bus is released at once. -/
theorem answerRequest_of_idle (hreq : s.requested = true) (hacc : s.bus.access = none) (howned : s.bus.ownership = .owned)
    (hidle : s.running = none) : s.answerRequest = s.releaseBus none := by
  simp [State.answerRequest, hreq, hidle, howned, hacc]

theorem displacedWindow_of_ready (hr : s.head w = some r) (hst : r.state = .ready) : s.displacedWindow w = some w := by
  simp [State.displacedWindow, hr, hst]

/-- The bus released at the moment `now`. -/
def releasedAt (s : State) (now : Nat) (displaced : Option (Fin 6)) : State := { s with
  bus.ownership := .released
  bus.release := some { at_ := now, start := none, displaced := displaced, overrun := false } }

theorem releaseBus_eq {now : Nat} (h : s.now = now) (displaced : Option (Fin 6)) : s.releaseBus displaced = releasedAt s now displaced := by
  subst h
  rfl

/-- A transaction that waits at a boundary with an access to make becomes READY, and its window is displaced. -/
theorem answerRequest_of_waiting (hreq : s.requested = true) (hacc : s.bus.access = none) (howned : s.bus.ownership = .owned)
    (hrun : s.running = some (w, r)) (habort : r.abort = none) (hop : r.op? = some op) (hnext : (op.access? r.unitIndex).isSome = true) :
    s.answerRequest = releasedAt { (s.setHead w { r with state := .ready }) with sch.grant := none } s.now (some w) := by
  obtain ⟨hgrant, hr, -⟩ := Records.running_spec hrun
  have hgranted : (s.setHead w { r with state := .ready }).sch.grant = some w := by simpa using hgrant
  have hsettled : s.answerRequest = State.releaseAt { (s.setHead w { r with state := .ready }) with sch.grant := none } w := by
    simp only [State.answerRequest, hreq, if_true, hrun]
    rw [settleWaiting_of_running hrun hacc, settle_of_head hr, settleUpTo_of_access hr (.inl rfl) habort hop hnext (by simp),
      yieldOrGo_yields (.inr (.inl hreq)), State.yieldHead, dropGrant_of_granted hgranted]
  obtain ⟨hshare, hbreq⟩ := requested_iff.mp hreq
  have hready : State.head { (s.setHead w { r with state := .ready }) with sch.grant := none } w = some { r with state := .ready } :=
    Records.head_setHead hr _
  rw [hsettled, releaseAt_eq, if_pos (by simp [hshare, hbreq, hacc, howned]), displacedWindow_of_ready hready rfl,
    releaseBus_eq (now := s.now) (by simp)]

end

end Sys2Proof.BusCycles
end

section
namespace Sys2Proof.BusCycles

open Sys2Proof Sys2Proof.Machine

/-! ## SET SHARING (R100) -/

section
variable {s : State} {rest : List Message} {e : Byte} {limit : Word}

/-- The message of a SET SHARING: its kind, the enable field, the limit. -/
abbrev sharingMessage (e : Byte) (limit : Word) : Message := [0x0A#8, e] ++ wordBytes limit

/-- The settings that an accepted SET SHARING leaves. -/
def shared (s : State) (e : Byte) (limit : Word) : State :=
  { s with bus.shareEnable := decide (e = 1#8), bus.shareLimit := limit.toNat }

theorem exec_setSharing (h : s.offers (sharingMessage e limit) rest) :
    exec .setSharing s = .next ((s.pop rest).setSharing (sharingMessage e limit)) := by
  obtain ⟨hm, hidle⟩ := h
  exact congrArg Host.Outcome.next (takeKind_of hm (dispatcherIdle_iff.mpr hidle) (by rfl))

theorem setSharing_of_no_value (h : 1 < e.toNat) :
    s.setSharing (sharingMessage e limit) = s.reply 0x0A#8 .badValue [] := by
  have hnone : yesNo e = none := (Windows.yesNo_eq_none_iff e).mpr h
  have hfield : byteAt (sharingMessage e limit) 1 = e := rfl
  unfold State.setSharing
  rw [if_pos (by rfl), hfield, hnone]
  rfl

theorem yesNo_of_le (h : e.toNat ≤ 1) : yesNo e = some (decide (e = 1#8)) ∧ flagByte (decide (e = 1#8)) = e := by
  revert e
  decide

/-- With the enable field read, one check is left (R100). -/
theorem setSharing_of_value (h : e.toNat ≤ 1) : s.setSharing (sharingMessage e limit) =
    if s.bus.ownership = .owned then (shared s e limit).answerRequest.reply 0x0A#8 .accepted (e :: wordBytes limit)
    else s.reply 0x0A#8 .busy [] := by
  obtain ⟨hflag, hbyte⟩ := yesNo_of_le h
  have hfield : byteAt (sharingMessage e limit) 1 = e := rfl
  have hlimit : wordAt (sharingMessage e limit) 2 = limit := ScratchMemory.wordOf_bytes limit
  unfold State.setSharing
  rw [if_pos (by rfl), hfield, hflag, hlimit]
  dsimp only
  rw [hbyte]
  rfl

/-- The taking of the message stands beside what the request does to the head of a window. -/
theorem setHead_pop (s : State) (rest : List Message) (w : Fin 6) (r : Record) :
    (s.pop rest).setHead w r = (s.setHead w r).pop rest := by
  unfold State.setHead
  rw [Windows.queue_pop]
  cases s.queue w <;> rfl

/-- An accepted SET SHARING, by the state in which its answer to BREQ leaves the bus. -/
theorem exec_setSharing_of_answered (h : s.offers (sharingMessage e limit) rest) (he : e.toNat ≤ 1) (howned : s.bus.ownership = .owned)
    {t : State} (ht : ((shared s e limit).pop rest).answerRequest = t.pop rest) (hwait : t.dsp.holdWait = none) :
    exec .setSharing s = .next (t.answered rest 0x0A#8 .accepted (e :: wordBytes limit)) := by
  have hpop : shared (s.pop rest) e limit = (shared s e limit).pop rest := rfl
  rw [exec_setSharing h, setSharing_of_value he, if_pos (by exact howned), hpop, ht, Windows.reply_pop hwait]

end

/-- Settles O34: the two checks in their order, and the three answers to BREQ under the new settings. -/
theorem setSharing : Obligations.SetSharing := by
  intro s rest e limit h
  have hexec := exec_setSharing h
  have ⟨_, _, hwait⟩ := h
  refine ⟨?_, fun he howned => ?_⟩
  · by_cases he : 1 < e.toNat
    · refine Windows.refusedFirst_of_failure (code := .badValue) (by simp [Windows.firstFailure_cons, he]) ?_
      rw [hexec, setSharing_of_no_value he, Windows.reply_pop hwait]
      rfl
    have hvalue := setSharing_of_value (s := s.pop rest) (limit := limit) (Nat.not_lt.mp he)
    by_cases howned : s.bus.ownership = .owned
    · refine Windows.refusedFirst_of_pass (by simp [Windows.firstFailure_cons, Windows.firstFailure_nil, he, howned]) hexec ?_
      rw [hvalue, if_pos (by exact howned)]
      rfl
    · have haway : s.bus.ownership = .released := by cases ho : s.bus.ownership <;> simp_all
      refine Windows.refusedFirst_of_failure (code := .busy) (by simp [Windows.firstFailure_cons, he, haway]) ?_
      rw [hexec, hvalue, if_neg (by exact howned), Windows.reply_pop hwait]
      rfl
  · intro t away yes
    have hreq : e = 1#8 → s.breq = true → ((shared s e limit).pop rest).requested = true :=
      fun he1 hbreq => requested_iff.mpr ⟨decide_eq_true he1, hbreq⟩
    refine ⟨fun hno => ?_, fun he1 hbreq hacc hidle => ?_, fun w r op he1 hbreq hacc hrun habort hop hnext => ?_⟩
    · refine exec_setSharing_of_answered h he howned (answerRequest_stays ?_) hwait
      rcases hno with rfl | hbreq | hacc
      · exact .inl rfl
      · exact .inl (Bool.and_eq_false_iff.mpr (.inr hbreq))
      · exact .inr (.inl hacc)
    · exact exec_setSharing_of_answered h he howned (answerRequest_of_idle (hreq he1 hbreq) hacc howned hidle) hwait
    · refine exec_setSharing_of_answered h he howned
        ((answerRequest_of_waiting (hreq he1 hbreq) hacc howned hrun habort hop hnext).trans ?_) (by simpa [shared] using hwait)
      rw [setHead_pop]
      rfl

end Sys2Proof.BusCycles
end

section
namespace Sys2Proof.BusCycles

open Sys2Proof Sys2Proof.Machine Sys2Proof.Scheduling

/-! ## BREQ and BGNT (R101 to R103) -/

section
variable {s : State} {w : Fin 6} {r : Record} {op : Op} {x : Release} {t0 : Nat}

/-- The engine drives its outputs again one tick after the release has ended (R102). -/
theorem endRelease_eq (s : State) : s.endRelease = { s with
    now := s.now + 1
    freed := s.freed + 1
    bus.ownership := .owned
    bus.release := none
    bus.recovery := Vector.replicate 6 (some (s.now + 1))
    bus.dHeld := Config.heldData s.freed } := by
  simp [State.endRelease, State.reach]

theorem releaseOver_iff : s.releaseOver = true ↔ (∃ x t0, s.bus.release = some x ∧ x.start = some t0) ∧ s.breq = false := by
  unfold State.releaseOver
  cases s.bus.release with
  | none => simp
  | some x => simp [Option.isSome_iff_exists]

/-- BREQ deasserted before BGNT has asserted ends nothing (R101). -/
theorem withdrawRequest_stays (h : ∀ x, s.bus.release = some x → x.start = none) : s.withdrawRequest = { s with breq := false } := by
  have hover : ¬ State.releaseOver { s with breq := false } = true := by
    rw [releaseOver_iff]
    rintro ⟨⟨x, t0, hx, ht0⟩, -⟩
    rw [h x hx] at ht0
    cases ht0
  exact if_neg hover

/-- BREQ deasserted after BGNT has asserted ends the release (R102). -/
theorem withdrawRequest_ends (hx : s.bus.release = some x) (ht0 : x.start = some t0) :
    s.withdrawRequest = State.endRelease { s with breq := false } :=
  if_pos ((releaseOver_iff (s := { s with breq := false })).mpr ⟨⟨x, t0, hx, ht0⟩, rfl⟩)

theorem assertBgnt_of_owned (hx : s.bus.release = none) : s.assertBgnt = s := by
  simp [State.assertBgnt, hx]

theorem assertBgnt_eq (hx : s.bus.release = some x) (hstart : x.start = none) : s.assertBgnt = { s with
    now := max s.now (x.at_ + 2)
    bus.release := some { x with start := some (max s.now (x.at_ + 2)) } } := by
  simp [State.assertBgnt, hx, hstart, State.reach]

/-- A limit of 0 is no limit, and a release raises no second overrun (R103). -/
theorem overrunRelease_stays (hx : s.bus.release = some x) (ht0 : x.start = some t0) (h : s.bus.shareLimit = 0 ∨ x.overrun = true) :
    s.overrunRelease = s := by
  simp [State.overrunRelease, hx, ht0, h]

/-- A raise is a new notice, or the pending one counts it (R162). -/
theorem raiseOverrun_eq (s : State) (limit : Nat) (window : Option (Fin 6)) : s.raiseOverrun limit window = { s with
    rpt.overrun := some (match s.rpt.overrun with
      | none => { limit := limit, window := window, count := 1 }
      | some o => { o with count := min 255 (o.count + 1) }) } := by
  unfold State.raiseOverrun
  cases s.rpt.overrun <;> rfl

theorem overrunRelease_eq (hx : s.bus.release = some x) (ht0 : x.start = some t0) (hlimit : s.bus.shareLimit ≠ 0)
    (hfirst : x.overrun = false) : s.overrunRelease =
      State.raiseOverrun { s with
        now := max s.now (t0 + 40 * s.bus.shareLimit)
        bus.release := some { x with overrun := true } } s.bus.shareLimit x.displaced := by
  simp [State.overrunRelease, hx, ht0, hlimit, hfirst, State.reach, Config.us, Config.ticksPerUs, Nat.mul_comm]

theorem request_now (s : State) : s.request.now = s.now := by simp [State.request]

/-- A sample of BREQ on a part that is not in the holding state of a reset is an event. -/
theorem exec_breqAsserted (hq : s.quiet = true) : exec .breqAsserted s = .next s.request := by
  obtain ⟨hholding, -⟩ := quiet_iff.mp hq
  have hexec : exec .breqAsserted s = .next (s.event State.request) := congrArg Host.Outcome.next (if_neg (by simp [hholding]))
  exact exec_of_event hexec rfl (by rw [request_now]; exact hq)

theorem exec_breqDeasserted {t : State} (ht : s.withdrawRequest = t) (hq : s.quietTo t.now = true) : exec .breqDeasserted s = .next t := by
  obtain ⟨hholding, -⟩ := quietTo_iff.mp hq
  have hexec : exec .breqDeasserted s = .next (s.event State.withdrawRequest) := congrArg Host.Outcome.next (if_neg (by simp [hholding]))
  exact exec_of_event hexec ht hq

end

/-- Settles O57: BREQ asserted by what the engine is doing, then BREQ deasserted, BGNT and the overrun by how far the release has come. -/
theorem busSharing : Obligations.BusSharing := by
  intro s t away back
  refine ⟨fun _ _ _ _ _ _ => endRelease_eq s, fun hq =>
    ⟨fun h => ?_, fun hshare hacc howned => ⟨fun hidle => ?_, ?_⟩, fun hx => ?_, ?_⟩⟩
  · rw [exec_breqAsserted hq]
    refine congrArg _ (answerRequest_stays (s := t) ?_)
    exact h.imp_left fun hoff => Bool.and_eq_false_iff.mpr (.inl hoff)
  · have hreq : t.requested = true := requested_iff.mpr ⟨hshare, rfl⟩
    rw [exec_breqAsserted hq]
    exact congrArg _ (answerRequest_of_idle hreq hacc howned hidle)
  · intro w r op hrun habort hop hnext
    have hreq : t.requested = true := requested_iff.mpr ⟨hshare, rfl⟩
    rw [exec_breqAsserted hq]
    exact congrArg _ (answerRequest_of_waiting hreq hacc howned hrun habort hop hnext)
  · refine ⟨exec_breqDeasserted (withdrawRequest_stays fun x h => ?_) hq, exec_of_event rfl (assertBgnt_of_owned hx) hq⟩
    rw [hx] at h
    cases h
  intro x hx
  refine ⟨fun hstart => ⟨exec_breqDeasserted (withdrawRequest_stays fun y hy => ?_) hq, fun hnow => ?_⟩,
    fun t0 ht0 => ⟨fun hnow => ?_, fun h => ?_, fun hlimit hfirst hnow => ?_⟩⟩
  · rw [hx] at hy
    exact Option.some.inj hy ▸ hstart
  · exact exec_of_event rfl (assertBgnt_eq hx hstart) hnow
  · exact exec_breqDeasserted ((withdrawRequest_ends hx ht0).trans (endRelease_eq _)) hnow
  · exact exec_of_event rfl (overrunRelease_stays hx ht0 h) hq
  · exact exec_of_event rfl ((overrunRelease_eq hx ht0 hlimit hfirst).trans (raiseOverrun_eq ..)) hnow

end Sys2Proof.BusCycles
end

section
namespace Sys2Proof.BusCycles

open Sys2Proof Sys2Proof.Machine

/-! ## The strobe and RDY (R94, R95) -/

section
variable {p : Profile} {rdy : List Bool} {n : Nat}

theorem rdyAsserted_iff (q : Polarity) (level on : Bool) :
    rdyAsserted q level = on ↔ level = if q = .highActive then on else !on := by
  cases q <;> cases level <;> cases on <;> decide

/-- RDY has level `on` in the tick `k` of these samples, as asserted or not. -/
def Samples (q : Polarity) (l : List Bool) (k : Nat) (on : Bool) : Prop := ∃ level, l[k]? = some level ∧ rdyAsserted q level = on

theorem samples_iff {q : Polarity} {l : List Bool} {k : Nat} {on : Bool} :
    Samples q l k on ↔ l[k]? = some (if q = .highActive then on else !on) := by
  simp only [Samples, rdyAsserted_iff, exists_eq_right]

/-- The extension ends with the first tick within the ready limit in which RDY is sampled asserted. -/
theorem extension_eq_some_iff {q : Polarity} {l : List Bool} {k left m : Nat} : extension q l k left = some m ↔
    ∃ i, m = k + i ∧ i ≤ left ∧ Samples q l i true ∧ ∀ j < i, Samples q l j false := by
  induction l generalizing k left with
  | nil => simp [extension, Samples]
  | cons level more ih =>
    have hzero : ∀ on, Samples q (level :: more) 0 on ↔ rdyAsserted q level = on := by simp [Samples]
    have hsucc : ∀ i on, Samples q (level :: more) (i + 1) on ↔ Samples q more i on := by simp [Samples]
    unfold extension
    cases hlevel : rdyAsserted q level with
    | true =>
      rw [if_pos rfl]
      constructor
      · rintro ⟨⟩
        exact ⟨0, rfl, Nat.zero_le _, (hzero true).mpr hlevel, by simp⟩
      · rintro ⟨i, rfl, -, -, hbefore⟩
        cases i with
        | zero => rfl
        | succ i =>
          have hfalse := (hzero false).mp (hbefore 0 (Nat.succ_pos i))
          rw [hlevel] at hfalse
          cases hfalse
    | false =>
      rw [if_neg (by simp)]
      cases left with
      | zero =>
        refine ⟨fun h => (by cases h), ?_⟩
        rintro ⟨i, -, hi, hlast, -⟩
        obtain rfl := Nat.le_zero.mp hi
        rw [hzero, hlevel] at hlast
        cases hlast
      | succ left =>
        rw [ih]
        constructor
        · rintro ⟨i, rfl, hi, hlast, hbefore⟩
          refine ⟨i + 1, by omega, Nat.succ_le_succ hi, (hsucc i true).mpr hlast, fun j hj => ?_⟩
          cases j with
          | zero => exact (hzero false).mpr hlevel
          | succ j => exact (hsucc j false).mpr (hbefore j (Nat.lt_of_succ_lt_succ hj))
        · rintro ⟨i, rfl, hi, hlast, hbefore⟩
          cases i with
          | zero =>
            rw [hzero, hlevel] at hlast
            cases hlast
          | succ i =>
            exact ⟨i, by omega, Nat.le_of_succ_le_succ hi, (hsucc i true).mp hlast,
              fun j hj => (hsucc j false).mp (hbefore (j + 1) (Nat.succ_lt_succ hj))⟩

theorem strobeTicks_of_noWait (h : p.readyMode = .noWait) : strobeTicks p rdy = some p.strobe := by
  simp [strobeTicks, h]

/-- In mode WAIT the samples count from the last tick of the strobe width on. -/
theorem strobeTicks_of_wait (h : p.readyMode = .wait) : strobeTicks p rdy = some n ↔
    ∃ k, n = p.strobe + k ∧ k ≤ p.readyLimit ∧ Samples p.readyPolarity (rdy.drop (p.strobe - 1)) k true ∧
      ∀ j < k, Samples p.readyPolarity (rdy.drop (p.strobe - 1)) j false := by
  simp only [strobeTicks, h, Option.map_eq_some_iff, extension_eq_some_iff, Nat.zero_add]
  constructor
  · rintro ⟨k, ⟨_, rfl, hk⟩, rfl⟩
    exact ⟨k, rfl, hk⟩
  · rintro ⟨k, rfl, hk⟩
    exact ⟨k, ⟨k, rfl, hk⟩, rfl⟩

end

end Sys2Proof.BusCycles
end

section
namespace Sys2Proof.BusCycles

open Sys2Proof Sys2Proof.Machine Sys2Proof.Operations Sys2Proof.Scheduling

/-! ## The end of a pin access (R72, R81, R87, R90) -/

section
variable {s : State} {a : Access} {r : Record} {op : Op} {n : Nat}

/-- The ticks of the address phases: none, one phase or two (Table 5–2, R97). -/
theorem addressTicks_eq (p : Profile) (elided : Bool) : addressTicks p elided =
    if elided = true ∨ p.addressMode = .direct then 0
    else if p.addressMode = .single then p.addressPhase else 2 * p.addressPhase := by
  unfold addressTicks
  cases elided <;> cases p.addressMode <;> simp

theorem driveData_eq (width : Width) (held v : Word) :
    driveData width held v = if width = .w8 then (held &&& 0xFF00#16) ||| (v &&& 0x00FF#16) else v := by
  cases width <;> rfl

/-- The moment at which the access ends with a strobe of `n` ticks. -/
def pinEnd (s : State) (a : Access) (n : Nat) : Nat := max s.now (a.start + accessTicks (s.window a.window).profile a.elided n)

/-- The state that a pin access leaves to its operation: its ticks have passed, the recovery timer of its window starts, and the weak
hold keeps `held` on D. -/
def pinMoved (s : State) (w : Fin 6) (now : Nat) (held : Word) : State :=
  { s with now := now, bus.recovery := s.bus.recovery.set w.val (some now) w.isLt, bus.dHeld := held }

theorem pinAccess_of (ha : s.bus.access = some a) (ht : (s.window a.window).profile.target = .pins) : s.pinAccess = some a := by
  simp [State.pinAccess, ha, ht]

/-- The unit that a pin access moves: the one written, or the lines of D that the width uses. -/
def pinUnit (s : State) (a : Access) (data : Word) : Word :=
  if a.kind = .write then a.value else maskUnit (s.window a.window).profile.width data

theorem completePin_eq (s : State) (a : Access) (n : Nat) (data : Word) : s.completePin a n data =
    (pinMoved s a.window (pinEnd s a n)
      (driveData (s.window a.window).profile.width s.bus.dHeld (pinUnit s a data))).takeUnit a (pinUnit s a data) := by
  unfold State.completePin pinUnit
  cases a.kind <;> rfl

/-- On a quiet part the access completes when the samples of RDY end its strobe. -/
theorem exec_accessCompletion {data : Word} {rdy : List Bool} (ha : s.bus.access = some a)
    (ht : (s.window a.window).profile.target = .pins) (hn : strobeTicks (s.window a.window).profile rdy = some n)
    (hq : s.quietTo (pinEnd s a n) = true) : exec (.accessCompletion data rdy) s = .next (s.completePin a n data) := by
  have hfinish : s.finishPin data rdy = s.completePin a n data := by
    simp only [State.finishPin, pinAccess_of ha ht, hn]
  refine exec_of_event rfl hfinish ?_
  rw [completePin_eq, (takeUnit_frame ..).2.2.2.2.1]
  exact hq

/-- At a pin target the write of a MODIFY waits for the recovery time, and takes A and the polarities as any access does (R31). -/
theorem beginModifyWrite_of_pins (ht : (s.window a.window).profile.target = .pins) (value : Word) :
    let p := (s.window a.window).profile
    s.beginModifyWrite a r value = State.setHead { s with
      bus.access := some { a with kind := .write, value := value, elided := false, start := s.now + p.recovery }
      bus.prevUnit := none
      bus.aHeld := if p.addressMode = .direct then a.addr &&& BitVec.ofNat 16 (2 ^ p.addressBits - 1) else s.bus.aHeld
      bus.strobePolarity := p.strobePolarity
      bus.advPolarity := p.advPolarity
      sch.slice := s.sch.slice + 1 } a.window r := by
  simp [State.beginModifyWrite, BusEngine.begin, lowBits, ht]

end

/-- Settles O54: the samples end the strobe, and the unit goes to its operation, which a boundary follows but for the read of a MODIFY. -/
theorem accessCompletion : Obligations.AccessCompletion := by
  intro s data rdy a r op n ha hr hop p ht hn phase now hq unit held recovery
  have hend : pinEnd s a n = now := by simp only [pinEnd, accessTicks, addressTicks_eq, now, phase, p]
  have hunit : pinUnit s a data = unit := by simp only [pinUnit, maskUnit_eq, unit, p]
  have hmoved : s.completePin a n data = (pinMoved s a.window now held).takeUnit a unit := by
    rw [completePin_eq, hend, hunit, driveData_eq]
  have hhead : (pinMoved s a.window now held).head a.window = some r := hr
  have htarget : ((pinMoved s a.window now held).window a.window).profile.target = .pins := ht
  have hexec := exec_accessCompletion (data := data) ha ht hn (by rw [hend]; exact hq)
  refine ⟨fun hk => ?_, fun addr k o ret hmodify hk => ?_⟩
  · rw [hexec, hmoved, takeUnit_of_boundary hhead hop hk]
    rfl
  · subst hmodify
    rw [hexec, hmoved, takeUnit_of_modifyRead hhead hop hk, beginModifyWrite_of_pins htarget]
    cases ret <;> rfl

end Sys2Proof.BusCycles
end

section
namespace Sys2Proof.BusCycles

open Sys2Proof Sys2Proof.Machine Sys2Proof.Scheduling

/-! ## The access that times out (R96) -/

section
variable {s : State} {w : Fin 6} {a : Access} {r : Record} {op : Op}

theorem setHead_head (hr : s.head w = some r) : s.setHead w r = s := by
  have hsame : { s.window w with queue := s.queue w } = s.window w := rfl
  rw [setHead_of_head hr, ← Records.queue_of_head hr, State.setQueue, hsame]
  simp [State.setWindow, State.window]

/-- A read that times out leaves a free value on D, and draws it. -/
def timedOut (s : State) (a : Access) : State := { s with freed := if a.kind = .read then s.freed + 1 else s.freed }

/-- What a timed-out access leaves on the lines of D that its width uses (R90, log entry 18). -/
def timedOutUnit (s : State) (a : Access) : Word := if a.kind = .read then Config.heldData s.freed else a.value

theorem timeoutPin_eq (s : State) (a : Access) : s.timeoutPin a = Records.failTimedOut
    (pinMoved (timedOut s a) a.window (pinEnd s a ((s.window a.window).profile.strobe + (s.window a.window).profile.readyLimit))
      (driveData (s.window a.window).profile.width s.bus.dHeld (timedOutUnit s a))) a := by
  refine Eq.trans (b := Records.failTimedOut _ a) rfl (congrArg (Records.failTimedOut · a) ?_)
  unfold timedOut timedOutUnit
  cases a.kind <;> rfl

theorem failTimedOut_of_op (hr : s.head a.window = some r) (hop : r.op? = some op) : Records.failTimedOut s a =
    s.endAccess a.window r.opIndex r.unitIndex r (.failed .readyTimeout (r.timeoutDetail op a.kind)) := by
  simp only [Records.failTimedOut, hr, hop]

/-- The access fails at its boundary, with the record as it stood (R43, R72). -/
theorem failTimedOut_eq (hr : s.head a.window = some r) (hop : r.op? = some op) : Records.failTimedOut s a =
    State.answerHold (State.settle { s with
      bus.access := none
      bus.prevUnit := some (r.opIndex, r.unitIndex)
      sch.slice := s.sch.slice + 1 } true a.window (.failed .readyTimeout (r.timeoutDetail op a.kind))) := by
  rw [failTimedOut_of_op hr hop, State.endAccess, setHead_head (by exact hr)]

/-- On a quiet part an access in ready mode WAIT times out at the end of its ready limit. -/
theorem exec_readyTimeout (ha : s.bus.access = some a) (ht : (s.window a.window).profile.target = .pins)
    (hwait : (s.window a.window).profile.readyMode = .wait) {t : State} (heffect : s.timeoutPin a = t)
    (hq : s.quietTo t.now = true) : exec .readyTimeout s = .next t := by
  have hfinish : s.finishTimeout = s.timeoutPin a := by simp only [State.finishTimeout, pinAccess_of ha ht, hwait, if_true]
  exact exec_of_event rfl (hfinish.trans heffect) hq

end

/-- Settles O53: the strobe's end by the first sample of RDY asserted in time, and the access that has none. -/
theorem readyAndTimeout : Obligations.ReadyAndTimeout := by
  refine ⟨fun p rdy n _ => ⟨strobeTicks_of_noWait, fun hwait => ?_⟩, ?_⟩
  · simp only [strobeTicks_of_wait hwait, samples_iff, List.getElem?_drop]
  · intro s a r op ha hr hop p ht hwait now hq detail on
    have hend : pinEnd s a (p.strobe + p.readyLimit) = now := rfl
    have hunit : timedOutUnit s a = if a.kind = .read then Config.heldData s.freed else a.value := rfl
    have hdetail : r.timeoutDetail op a.kind = detail := by
      cases op with
      | modify => cases hk : a.kind <;> simp [Record.timeoutDetail, detail, hk]
      | _ => rfl
    have heffect := (timeoutPin_eq s a).trans (failTimedOut_eq (by exact hr) hop)
    rw [hend, hunit, hdetail, driveData_eq] at heffect
    exact exec_readyTimeout ha ht hwait heffect (by simpa [pinMoved] using hq)

end Sys2Proof.BusCycles
end

section
namespace Sys2Proof.BusCycles

open Sys2Proof Sys2Proof.Machine

/-! ## The phases of an access (Table 5–2) -/

section
variable {p : Profile} {elided : Bool} {n e : Nat}

/-- How many address phases an access has: none in DIRECT mode or when elided, else one or two (R53, R97). -/
def phases (p : Profile) (elided : Bool) : Nat :=
  if elided = true ∨ p.addressMode = .direct then 0 else if p.addressMode = .single then 1 else 2

theorem addressTicks_eq_phases (p : Profile) (elided : Bool) : addressTicks p elided = phases p elided * p.addressPhase := by
  rw [addressTicks_eq, phases]
  split
  · simp
  · split <;> simp

theorem phases_cases (p : Profile) (elided : Bool) : phases p elided = 0 ∨ phases p elided = 1 ∨ phases p elided = 2 := by
  unfold phases
  split
  · exact .inl rfl
  · split
    · exact .inr (.inl rfl)
    · exact .inr (.inr rfl)

/-- The phases in their order; address phases of no ticks are passed over. -/
theorem phaseAt_eq (p : Profile) (elided : Bool) (n e : Nat) : phaseAt p elided n e =
    if 1 ≤ phases p elided ∧ e < p.addressPhase then .address0
    else if phases p elided = 2 ∧ e < 2 * p.addressPhase then .address1
    else if e < phases p elided * p.addressPhase + p.setup then .setup
    else if e < phases p elided * p.addressPhase + p.setup + n then .strobe
    else .hold := by
  unfold phaseAt
  rw [addressTicks_eq_phases]
  rcases phases_cases p elided with h | h | h <;> rw [h] <;> grind

theorem phaseAt_address0_iff : phaseAt p elided n e = .address0 ↔ 1 ≤ phases p elided ∧ e < p.addressPhase := by
  rw [phaseAt_eq]
  grind

theorem phaseAt_address1_iff : phaseAt p elided n e = .address1 ↔
    phases p elided = 2 ∧ p.addressPhase ≤ e ∧ e < 2 * p.addressPhase := by
  rw [phaseAt_eq]
  grind

theorem phaseAt_strobe_iff : phaseAt p elided n e = .strobe ↔
    phases p elided * p.addressPhase + p.setup ≤ e ∧ e < phases p elided * p.addressPhase + p.setup + n := by
  rw [phaseAt_eq]
  rcases phases_cases p elided with h | h | h <;> rw [h] <;> grind

theorem phaseAt_hold_iff : phaseAt p elided n e = .hold ↔ phases p elided * p.addressPhase + p.setup + n ≤ e := by
  rw [phaseAt_eq]
  rcases phases_cases p elided with h | h | h <;> rw [h] <;> grind

end

end Sys2Proof.BusCycles
end

section
namespace Sys2Proof.BusCycles

open Sys2Proof Sys2Proof.Machine

/-! ## The levels of single pins (R54, R88 to R91, R98) -/

section
variable {s : State} {p : Profile} {a : Access} {ph : Phase} {rdy : List Bool}

theorem levelOf_eq (q : Polarity) (on : Bool) : levelOf q on = if decide (q = .highActive) = on then .high else .low := by
  cases q <;> cases on <;> rfl

/-- A pin that is asserted exactly while `P` holds. -/
theorem levelOf_decide {P Q : Prop} [Decidable P] [Decidable Q] (h : P ↔ Q) (q : Polarity) :
    levelOf q (decide P) = if decide (q = .highActive) = decide Q then .high else .low := by
  rw [levelOf_eq, decide_eq_decide.mpr h]

theorem chipSelects_getElem (s : State) (active : Option (Fin 6)) (w : Fin 6) :
    (s.chipSelects active)[w] = levelOf (s.window w).profile.csPolarity (decide (active = some w)) :=
  Vector.getElem_ofFn ..

/-- The low half of D carries the address in the address phases, and the unit of a write after them. -/
theorem dataLines_low (p : Profile) (a : Access) (ph : Phase) : (dataLines p a ph).1 =
    if ph = .address0 then some ((lowBits p.addressBits a.addr).setWidth 8)
    else if ph = .address1 then some ((lowBits p.addressBits a.addr >>> 8).setWidth 8)
    else if a.kind = .write then some (a.value.setWidth 8) else none := by
  unfold dataLines
  cases ph <;> cases a.kind <;> simp

/-- The high half of D is driven at width 16 alone: with the address in mode SINGLE, and with the unit of a write. -/
theorem dataLines_high (p : Profile) (a : Access) (ph : Phase) : (dataLines p a ph).2 =
    if ph = .address0 then
      (if p.addressMode = .single ∧ p.width = .w16 then some ((lowBits p.addressBits a.addr >>> 8).setWidth 8) else none)
    else if ph = .address1 then none
    else if a.kind = .write ∧ p.width = .w16 then some ((a.value >>> 8).setWidth 8) else none := by
  unfold dataLines
  cases ph <;> cases a.kind <;> simp

theorem shiftRight_and_low (x : Word) : (x >>> 8) &&& 0x00FF#16 = x >>> 8 := by
  refine BitVec.eq_of_toNat_eq ?_
  have hmask : (0x00FF#16).toNat = 2 ^ 8 - 1 := rfl
  rw [BitVec.toNat_and, hmask, Nat.and_two_pow_sub_one_eq_mod, BitVec.toNat_ushiftRight, Nat.shiftRight_eq_div_pow]
  omega

/-- What the address phases leave on D: nothing new, the address, or in mode DOUBLE its high byte on the low half. -/
theorem addressLevels_eq (p : Profile) (a : Access) (held : Word) : addressLevels p a held =
    if phases p a.elided = 0 then held
    else if phases p a.elided = 1 then driveData p.width held (lowBits p.addressBits a.addr)
    else (held &&& 0xFF00#16) ||| (lowBits p.addressBits a.addr >>> 8) := by
  unfold addressLevels phases
  cases a.elided <;> cases p.addressMode <;> simp [driveData, shiftRight_and_low]

/-- The weak hold keeps what the address phases left, until a read's strobe has ended (R90). -/
theorem heldLevels_of_driven (data : Word) (h : a.kind = .write ∨ ph ≠ .hold) :
    s.heldLevels a ph data rdy = addressLevels (s.window a.window).profile a s.bus.dHeld := by
  refine if_neg ?_
  rintro ⟨hhold, hread⟩
  rcases h with hwrite | hph
  · rw [hread] at hwrite
    cases hwrite
  · exact hph hhold

/-- After the strobe of a read it keeps the unit that was on D as the strobe ended (R90). -/
theorem heldLevels_of_read (data : Word) (hread : a.kind = .read) (hhold : ph = .hold)
    (hends : (strobeTicks (s.window a.window).profile rdy).isSome = true) : s.heldLevels a ph data rdy =
      driveData (s.window a.window).profile.width (addressLevels (s.window a.window).profile a s.bus.dHeld) data := by
  simp [State.heldLevels, hread, hhold, hends]

theorem strobeLength_eq (p : Profile) (rdy : List Bool) :
    strobeLength p rdy = match strobeTicks p rdy with | some n => n | none => p.strobe + p.readyLimit := by
  unfold strobeLength
  cases strobeTicks p rdy <;> rfl

end

end Sys2Proof.BusCycles
end

section
namespace Sys2Proof.BusCycles

open Sys2Proof Sys2Proof.Machine

/-! ## Which pins a tick shows (R91, R101, R120) -/

section
variable {s : State} {a : Access} {r : Release} {data : Word} {rdy : List Bool}

theorem pins_in_reset {x : Nat × Pins} (hx : s.bus.resetPins = some x) (hnow : s.now ≤ x.1) : s.pins data rdy = x.2 := by
  simp [State.pins, hx, hnow]

theorem pins_of_engine (h : ∀ x ∈ s.bus.resetPins, x.1 < s.now) : s.pins data rdy = s.enginePins data rdy := by
  unfold State.pins
  split
  · rename_i t q hx
    exact if_neg (Nat.not_le.mpr (h (t, q) hx))
  · rfl

theorem enginePins_of_released (hr : s.bus.release = some r) (hat : r.at_ < s.now) :
    s.enginePins data rdy = floatingPins r.start.isSome := by
  simp [State.enginePins, hr, hat]

theorem enginePins_of_access (hr : s.bus.release = none) (ha : s.bus.access = some a)
    (ht : (s.window a.window).profile.target = .pins) (hstart : a.start ≤ s.now) :
    s.enginePins data rdy = s.accessPins a data rdy := by
  simp [State.enginePins, hr, ha, ht, hstart]

/-- In the tick of a release event, and with no pin access under way, the pins are at rest. -/
theorem enginePins_at_rest (hr : ∀ x ∈ s.bus.release, s.now ≤ x.at_)
    (ha : ∀ a, s.bus.access = some a → (s.window a.window).profile.target = .scratch ∨ s.now < a.start) :
    s.enginePins data rdy = s.restPins := by
  unfold State.enginePins
  split
  · rename_i x hx
    exact if_neg (Nat.not_lt.mpr (hr x hx))
  · split
    · rename_i a hacc
      refine if_neg ?_
      rcases ha a hacc with ht | hlt
      · simp [ht]
      · simp [hlt]
    · rfl

/-- Until the outputs float, BGNT is deasserted and A is driven (R88, R101). -/
theorem enginePins_owned (hr : ∀ x ∈ s.bus.release, s.now ≤ x.at_) :
    (s.enginePins data rdy).bgnt = false ∧ (s.enginePins data rdy).a = some s.bus.aHeld := by
  unfold State.enginePins
  split
  · rename_i x hx
    rw [if_neg (Nat.not_lt.mpr (hr x hx))]
    exact ⟨rfl, rfl⟩
  · split
    · split <;> exact ⟨rfl, rfl⟩
    · exact ⟨rfl, rfl⟩

end

end Sys2Proof.BusCycles
end

section
namespace Sys2Proof.BusCycles

open Sys2Proof Sys2Proof.Machine

/-! ## The pins of a tick -/

/-- Settles O58: the pins of the reset, of the engine at rest, in an access pin by pin by its phase, and of a released bus. -/
theorem pinLevels : Obligations.PinLevels := by
  intro s data rdy q level
  refine ⟨fun x hx hnow => pins_in_reset hx hnow, fun hreset => ?_⟩
  have hq : q = s.enginePins data rdy := pins_of_engine hreset
  rw [hq]
  refine ⟨enginePins_owned, fun hr ha => ?_, fun a e hr ha ht hnow => ?_, fun x hx hat => enginePins_of_released hx hat⟩
  · rw [enginePins_at_rest hr ha]
    exact ⟨fun w => (chipSelects_getElem s none w).trans (levelOf_eq _ false), levelOf_eq .., levelOf_eq .., levelOf_eq ..,
      levelOf_eq .., rfl, rfl, rfl⟩
  · intro p count before ticks strobe adv0 adv1 addr on left
    rw [enginePins_of_access hr ha ht (by omega)]
    have helapsed : s.now - a.start = e := by omega
    have hticks : strobeLength p rdy = ticks := strobeLength_eq p rdy
    have h0 : phaseAt p a.elided ticks e = .address0 ↔ adv0 := phaseAt_address0_iff
    have h1 : phaseAt p a.elided ticks e = .address1 ↔ adv1 := phaseAt_address1_iff
    have hstrobe : phaseAt p a.elided ticks e = .strobe ↔ strobe := phaseAt_strobe_iff
    have hhold : phaseAt p a.elided ticks e = .hold ↔ before + ticks ≤ e := phaseAt_hold_iff
    have hleft : addressLevels p a s.bus.dHeld = left := by
      rw [addressLevels_eq, driveData_eq]
      rfl
    unfold State.accessPins
    dsimp only
    rw [helapsed, hticks]
    refine ⟨fun w => ?_, levelOf_decide (and_congr_left' hstrobe) _, levelOf_decide (and_congr_left' hstrobe) _, levelOf_decide h0 _,
      levelOf_decide h1 _, (dataLines_low ..).trans (if_congr h0 rfl (if_congr h1 rfl rfl)),
      (dataLines_high ..).trans (if_congr h0 rfl (if_congr h1 rfl rfl)), fun h => ?_, fun hread hlate hends => ?_⟩
    · rw [chipSelects_getElem]
      exact levelOf_decide (by rw [Option.some.injEq, eq_comm]) _
    · rw [heldLevels_of_driven data (h.imp_right fun he hph => Nat.not_le.mpr he (hhold.mp hph)), hleft]
    · rw [heldLevels_of_read data hread (hhold.mpr hlate) hends, hleft, driveData_eq]

end Sys2Proof.BusCycles
end

section
namespace Sys2Proof.Cancellation

open Sys2Proof Sys2Proof.Machine Sys2Proof.Windows

/-! PROOF. Cancellation, faults and recovery (O26, O27, O28, O31): CANCEL, FLUSH and CLEAR FAULT, each with its checks and with what it
does to the records of a window. A request acts on the state from which its message has been taken; that taking stands beside what the
request does (`…_pop`), so that each effect is said of the state as it was. -/

/-! ## A request that is offered -/

section
variable {s : State} {m : Message} {rest : List Message} {k : RequestKind} {c : Instr} {code : ResultCode}
  {checks : List (Bool × ResultCode)}

/-- The message at the head of the queue, where it is of the kind, is taken and carried out (R144). -/
theorem takeKind_of_offers (h : s.offers m rest) (hk : m.headD 0#8 = k.code) (body : State → Message → State) :
    s.takeKind (some k) body = body (s.pop rest) m := by
  obtain ⟨hm, hidle⟩ := h
  have hkind : kindNamed (kindOf m) = some k := by
    rw [kindOf_eq, hk]
    cases k <;> rfl
  exact takeKind_of hm (dispatcherIdle_iff.mpr hidle) hkind

/-- A request refused after the format check is answered with its object field (R148). -/
theorem refusedFirst_of_refuse (hf : firstFailure checks = some code) (hcode : code ≠ .badFormat) (hwait : s.dsp.holdWait = none)
    (he : exec c s = .next ((s.pop rest).refuse k m code)) : s.refusedFirst c k.code rest (k.object m) checks := by
  refine refusedFirst_of_failure hf ?_
  rw [he, if_neg hcode]
  exact congrArg Host.Outcome.next (reply_pop hwait ..)

/-- A request that fails the format check is answered with an empty body (R148). -/
theorem refusedFirst_of_refuseFormat (hf : firstFailure checks = some .badFormat) (hk : m.headD 0#8 = k.code)
    (hwait : s.dsp.holdWait = none) (he : exec c s = .next ((s.pop rest).refuseFormat m)) :
    s.refusedFirst c k.code rest (k.object m) checks := by
  refine refusedFirst_of_failure hf ?_
  rw [he, State.refuseFormat, kindOf_eq, hk, reply_pop hwait]
  rfl

/-- A request that passes every check is accepted. -/
theorem refusedFirst_of_accept {t : State} {body : List Byte} (hf : firstFailure checks = none) (he : exec c s = .next (t.accept k body)) :
    s.refusedFirst c k.code rest (k.object m) checks :=
  refusedFirst_of_pass hf he rfl

end

/-! ## Records of a tag (R2) -/

section
variable {s : State} {w : Fin 6} {r : Record}

theorem mem_busSide {x : Record} : x ∈ s.busSide ↔ ∃ w, x ∈ s.queue w := by
  unfold State.busSide
  rw [List.mem_flatMap]
  exact ⟨fun ⟨w, _, h⟩ => ⟨w, h⟩, fun ⟨w, h⟩ => ⟨w, Records.mem_allWindows w, h⟩⟩

/-- With distinct tags a tag names one record of one window's queue. -/
theorem eq_of_tag_eq (hd : s.tagsDistinct = true) {v : Fin 6} {x : Record} (hr : r ∈ s.queue w) (hx : x ∈ s.queue v)
    (htag : x.tag = r.tag) : v = w ∧ x = r := by
  have hvw : v = w := by
    by_contra hne
    rw [Records.tagsDistinct_iff, ((Records.live_perm s w).map Record.tag).nodup_iff, List.map_append, List.nodup_append] at hd
    obtain ⟨-, -, hdisjoint⟩ := hd
    have hnodup : allWindows.Nodup := by decide
    have hx' : x ∈ Records.elsewhere s w :=
      List.mem_flatMap.mpr ⟨v, hnodup.mem_erase_iff.mpr ⟨hne, Records.mem_allWindows v⟩, hx⟩
    exact hdisjoint _ (List.mem_map_of_mem (List.mem_append_left _ hr)) _ (List.mem_map_of_mem hx') htag.symm
  subst hvw
  exact ⟨rfl, List.inj_on_of_nodup_map (Records.tags_queue_nodup hd v) hx hr htag⟩

theorem findBusSide_eq_none_iff {tag : Word} : s.findBusSide tag = none ↔ ∀ x ∈ s.busSide, x.tag ≠ tag := by
  simp only [State.findBusSide, List.findSome?_eq_none_iff, Option.map_eq_none_iff, List.find?_eq_none, decide_eq_true_eq, mem_busSide]
  exact ⟨fun h x ⟨w, hx⟩ => h w (Records.mem_allWindows w) x hx, fun h w _ x hx => h x ⟨w, hx⟩⟩

/-- CANCEL finds the one record of its tag. -/
theorem findBusSide_of_mem (hd : s.tagsDistinct = true) (hr : r ∈ s.queue w) : s.findBusSide r.tag = some (w, r) := by
  cases hf : s.findBusSide r.tag with
  | none => exact absurd rfl (findBusSide_eq_none_iff.mp hf r (mem_busSide.mpr ⟨w, hr⟩))
  | some found =>
    obtain ⟨hfirst, htag⟩ := Records.findBusSide_spec hf
    obtain ⟨hw, hx⟩ := eq_of_tag_eq hd hr hfirst.mem htag
    rw [← hw, ← hx]

variable {front back : List Record} {cause : CancelCause}

/-- With distinct tags no other record of the queue has the tag of `r`. -/
theorem tag_ne_of_split (hd : s.tagsDistinct = true) (hq : s.queue w = front ++ r :: back) : ∀ x ∈ front ++ back, x.tag ≠ r.tag := by
  have hnodup := Records.tags_queue_nodup hd w
  rw [hq, (List.perm_middle.map Record.tag).nodup_iff, List.map_cons, List.nodup_cons] at hnodup
  exact fun x hx htag => hnodup.1 (htag ▸ List.mem_map_of_mem hx)

/-- The queue without the record of a tag. -/
theorem without_of_split (hd : s.tagsDistinct = true) (hq : s.queue w = front ++ r :: back) :
    Records.without (s.queue w) r.tag = front ++ back := by
  have hne := tag_ne_of_split hd hq
  unfold Records.without
  rw [hq, List.filter_append, List.filter_cons_of_neg (by simp), ← List.filter_append, List.filter_eq_self]
  exact fun x hx => decide_eq_true (hne x hx)

/-- The head of a queue alone takes an abort request for its tag. -/
theorem markAbort_of_head (hd : s.tagsDistinct = true) (hq : s.queue w = r :: back) :
    (s.queue w).map (Records.markAbort r.tag cause) = { r with abort := some cause } :: back := by
  have hne : ∀ x ∈ back, x.tag ≠ r.tag := tag_ne_of_split (front := []) hd hq
  have hback : back.map (Records.markAbort r.tag cause) = back :=
    (List.map_congr_left fun x hx => if_neg (hne x hx)).trans (List.map_id back)
  rw [hq, List.map_cons, hback]
  exact congrArg (· :: back) (if_pos rfl)

end

end Sys2Proof.Cancellation
end

section
namespace Sys2Proof.Cancellation

open Sys2Proof Sys2Proof.Machine Sys2Proof.Windows Sys2Proof.Operations Sys2Proof.Scheduling

/-! ## What a cancellation does to a window -/

section
variable {s : State} {w : Fin 6} {r : Record} {front back : List Record} {cause : CancelCause}

theorem setQueue_setQueue (s : State) (w : Fin 6) (p q : List Record) : (s.setQueue w p).setQueue w q = s.setQueue w q := by
  simp [State.setQueue, State.setWindow, State.window]

theorem setQueue_queue (s : State) (w : Fin 6) : s.setQueue w (s.queue w) = s := by
  have hsame : { s.window w with queue := s.queue w } = s.window w := rfl
  rw [State.setQueue, hsame]
  simp [State.setWindow, State.window]

theorem queue_dropWake (s : State) (r : Record) (v : Fin 6) : (s.dropWake r).queue v = s.queue v := by
  simp [State.queue, State.window]

theorem endCancelled_eq (r : Record) (cause : CancelCause) :
    r.endCancelled cause = r.ended (.cancelled cause) r.opIndex none 0 := rfl

/-- A record that waits for nothing leaves no wake condition behind. -/
theorem dropWake_of_no_wake (h : r.wake = none) : s.dropWake r = s := by
  unfold State.dropWake
  rw [h]

theorem dropWake_pop (s : State) (rest : List Message) (r : Record) : (s.pop rest).dropWake r = (s.dropWake r).pop rest := by
  unfold State.dropWake
  rcases r.wake with _ | _ | _ <;> rfl

theorem dropGrant_pop (s : State) (rest : List Message) (w : Fin 6) : (s.pop rest).dropGrant w = (s.dropGrant w).pop rest := by
  unfold State.dropGrant
  rw [apply_ite (fun t : State => t.pop rest)]
  rfl

theorem retireHead_pop (s : State) (rest : List Message) (w : Fin 6) (r : Record) :
    (s.pop rest).retireHead w r = (s.retireHead w r).pop rest := by
  unfold State.retireHead
  rw [← dropGrant_pop]
  rfl

/-- The head leaves by its place, whatever was put there. -/
theorem retireHead_setQueue (hq : s.queue w = r :: back) (r' x : Record) :
    (s.setQueue w (r' :: back)).retireHead w x = s.retireHead w x := by
  unfold State.retireHead
  rw [queue_setQueue_self, setQueue_setQueue, hq]
  rfl

/-! ### A record that is not RUNNING (R109, R110) -/

theorem cancelFound_of_not_running (hst : r.state ≠ .running) : s.cancelFound w r = s.cancelNow w r .byCancel := by
  unfold State.cancelFound
  split
  · exact absurd ‹_› hst
  all_goals rfl

theorem cancelNow_pop (s : State) (rest : List Message) (w : Fin 6) (r : Record) (cause : CancelCause) :
    (s.pop rest).cancelNow w r cause = (s.cancelNow w r cause).pop rest := by
  unfold State.cancelNow
  rw [dropWake_pop]
  rfl

theorem cancelNow_of_split (hd : s.tagsDistinct = true) (hq : s.queue w = front ++ r :: back) : s.cancelNow w r cause =
    ((s.dropWake r).setQueue w (front ++ back)).joinBacklog [r.ended (.cancelled cause) r.opIndex none 0] := by
  have hrest : (s.queue w).filter (fun x => decide (x.tag ≠ r.tag)) = front ++ back := without_of_split hd hq
  unfold State.cancelNow
  dsimp only
  rw [queue_dropWake, hrest]
  rfl

/-! ### The RUNNING record (R105, R107, R111) -/

theorem cancelFound_of_running (hst : r.state = .running) :
    s.cancelFound w r = if r.abort = none then s.requestAbort w r .byCancel else s := by
  unfold State.cancelFound
  rw [hst]

theorem requestAbort_of_head (hd : s.tagsDistinct = true) (hq : s.queue w = r :: back) :
    s.requestAbort w r cause = (s.setQueue w ({ r with abort := some cause } :: back)).settleWaiting :=
  congrArg (fun q => (s.setQueue w q).settleWaiting) (markAbort_of_head hd hq)

theorem settleWaiting_of_access {a : Access} (ha : s.bus.access = some a) : s.settleWaiting = s := by
  unfold State.settleWaiting
  split
  · exact if_neg (by simp [ha])
  · rfl

/-- A RUNNING head that carries an abort request ends at the boundary where it stands (R41 case 3, R107). -/
theorem settleWaiting_of_abort (hgrant : s.sch.grant = some w) (hr : s.head w = some r) (hst : r.state = .running)
    (habort : r.abort = some cause) (ha : s.bus.access = none) :
    s.settleWaiting = (s.retireHead w (r.ended (.cancelled cause) r.opIndex none 0)).releaseAt w := by
  have hrun : s.running = some (w, r) := by simp [State.running, hgrant, hr, hst]
  rw [settleWaiting_of_running hrun ha, settle_of_head hr, settleUpTo_of_abort hr (.inl rfl) habort, endCancelled_eq]

/-- With no access in progress a CANCEL ends the RUNNING head in its own event (R107). -/
theorem requestAbort_of_idle (hd : s.tagsDistinct = true) (hgrant : s.sch.grant = some w) (hq : s.queue w = r :: back)
    (hst : r.state = .running) (ha : s.bus.access = none) :
    let marked := { r with abort := some cause }
    s.requestAbort w r cause = (s.retireHead w (marked.ended (.cancelled cause) r.opIndex none 0)).releaseAt w := by
  intro marked
  have hmarked : (s.setQueue w (marked :: back)).head w = some marked := by simp [State.head]
  rw [requestAbort_of_head hd hq, settleWaiting_of_abort (by simpa using hgrant) hmarked hst rfl (by simpa using ha),
    retireHead_setQueue hq]

/-- While an access is in progress a CANCEL leaves the RUNNING head marked (R107). -/
theorem requestAbort_of_access (hd : s.tagsDistinct = true) (hq : s.queue w = r :: back) {a : Access} (ha : s.bus.access = some a) :
    s.requestAbort w r cause = s.setQueue w ({ r with abort := some cause } :: back) := by
  rw [requestAbort_of_head hd hq, settleWaiting_of_access (by simpa using ha)]

end

end Sys2Proof.Cancellation
end

section
namespace Sys2Proof.Cancellation

open Sys2Proof Sys2Proof.Machine Sys2Proof.Windows

/-! ## CANCEL (R108 to R111) -/

section
variable {s : State} {m : Message} {rest : List Message} {w : Fin 6} {r : Record}

theorem formatOk_cancel (m : Message) : RequestKind.cancel.formatOk m = true ↔ m.length = 3 := decide_eq_true_iff

theorem exec_cancel (h : s.offers m rest) (hk : m.headD 0#8 = 0x02#8) : exec .cancel s = .next ((s.pop rest).cancel m) :=
  congrArg Host.Outcome.next (takeKind_of_offers (k := .cancel) h hk State.cancel)

theorem cancel_of_length (hlen : m.length ≠ 3) : s.cancel m = s.refuseFormat m := by
  unfold State.cancel
  rw [if_neg (mt (formatOk_cancel m).mp hlen)]

theorem cancel_of_zero (hlen : m.length = 3) (htag : wordAt m 1 = 0#16) : s.cancel m = s.refuse .cancel m .badTag := by
  unfold State.cancel
  rw [if_pos ((formatOk_cancel m).mpr hlen)]
  exact if_pos htag

theorem cancel_of_found (hlen : m.length = 3) (htag : wordAt m 1 ≠ 0#16) (hf : s.findBusSide (wordAt m 1) = some (w, r)) :
    s.cancel m = (s.cancelFound w r).accept .cancel (wordBytes (wordAt m 1) ++ [dispositionOf r]) := by
  unfold State.cancel
  rw [if_pos ((formatOk_cancel m).mpr hlen)]
  dsimp only
  rw [if_neg htag, hf]

/-- A tag that no bus-side record has is that of a COMPLETING record, or of none. -/
theorem cancel_of_not_found (hlen : m.length = 3) (htag : wordAt m 1 ≠ 0#16) (hf : s.findBusSide (wordAt m 1) = none) :
    s.cancel m = if ∃ x ∈ s.rpt.backlog, x.tag = wordAt m 1 then s.refuse .cancel m .tooLate else s.refuse .cancel m .unknownTag := by
  unfold State.cancel
  rw [if_pos ((formatOk_cancel m).mpr hlen)]
  dsimp only
  rw [if_neg htag, hf]
  simp

/-- The state that a CANCEL leaves with its message taken, and its answer. -/
theorem exec_cancel_of_mem (h : s.offers ([0x02#8] ++ wordBytes r.tag) rest) (htag : r.tag ≠ 0#16) (hd : s.tagsDistinct = true)
    (hr : r ∈ s.queue w) {t : State} (ht : (s.pop rest).cancelFound w r = t.pop rest) (hwait : t.dsp.holdWait = none) :
    exec .cancel s = .next (t.answered rest 0x02#8 .accepted (wordBytes r.tag ++ [dispositionOf r])) := by
  have hfield : wordAt ([0x02#8] ++ wordBytes r.tag) 1 = r.tag := ScratchMemory.wordOf_bytes r.tag
  have hf : (s.pop rest).findBusSide r.tag = some (w, r) := findBusSide_of_mem hd hr
  rw [← hfield] at htag hf
  rw [exec_cancel h rfl, cancel_of_found rfl htag hf, ht, hfield]
  exact congrArg Host.Outcome.next (reply_pop hwait ..)

end

/-- Settles O27: the model goes through the same checks in the same order. -/
theorem cancelCheckOrder : Obligations.CancelCheckOrder := by
  intro s m rest h hk
  have hexec := exec_cancel h hk
  obtain ⟨-, -, hwait⟩ := h
  by_cases hlen : m.length = 3
  case neg =>
    refine refusedFirst_of_refuseFormat (k := .cancel) (by simp [firstFailure_cons, hlen]) hk hwait ?_
    rw [hexec, cancel_of_length hlen]
  by_cases htag : wordAt m 1 = 0#16
  · refine refusedFirst_of_refuse (k := .cancel) (code := .badTag) (by simp [firstFailure_cons, hlen, htag]) (by decide) hwait ?_
    rw [hexec, cancel_of_zero hlen htag]
  have hright : ¬ m.length ≠ 3 := not_not.mpr hlen
  have hfind : (s.pop rest).findBusSide (wordAt m 1) = s.findBusSide (wordAt m 1) := rfl
  by_cases hbus : ∀ x ∈ s.busSide, x.tag ≠ wordAt m 1
  · have hcancel := cancel_of_not_found hlen htag (hfind.trans (findBusSide_eq_none_iff.mpr hbus))
    by_cases hlive : ∀ x ∈ s.live, x.tag ≠ wordAt m 1
    · have hback : ¬ ∃ x ∈ s.rpt.backlog, x.tag = wordAt m 1 := fun ⟨x, hx, e⟩ => hlive x (List.mem_append_right _ hx) e
      refine refusedFirst_of_refuse (k := .cancel) (code := .unknownTag) ?_ (by decide) hwait (hexec.trans ?_)
      · simp only [firstFailure_cons, hright, htag, decide_eq_true hlive, decide_false, Bool.false_eq_true, if_false, if_true]
      · exact congrArg _ (hcancel.trans (if_neg hback))
    · have hback : ∃ x ∈ s.rpt.backlog, x.tag = wordAt m 1 := by
        by_contra hno
        exact hlive fun x hx => (List.mem_append.mp hx).elim (hbus x) fun hx e => hno ⟨x, hx, e⟩
      refine refusedFirst_of_refuse (k := .cancel) (code := .tooLate) ?_ (by decide) hwait (hexec.trans ?_)
      · simp only [firstFailure_cons, hright, htag, hlive, decide_eq_true hbus, decide_false, Bool.false_eq_true, if_false, if_true]
      · exact congrArg _ (hcancel.trans (if_pos hback))
  · have hlive : ¬ ∀ x ∈ s.live, x.tag ≠ wordAt m 1 := fun hno => hbus fun x hx => hno x (List.mem_append_left _ hx)
    obtain ⟨⟨w, r⟩, hf⟩ := Option.ne_none_iff_exists'.mp (mt findBusSide_eq_none_iff.mp hbus)
    refine refusedFirst_of_accept (k := .cancel) ?_ (hexec.trans (congrArg _ (cancel_of_found hlen htag (hfind.trans hf))))
    simp only [firstFailure_cons, firstFailure_nil, hright, htag, hlive, hbus, decide_false, Bool.false_eq_true, if_false]

/-- Settles O26: a record off the engine leaves its queue; the RUNNING head is marked, and settled where no access is in progress. -/
theorem cancel : Obligations.Cancel := by
  refine ⟨fun s rest w front back r h htag hd hq hst => ?_, fun s rest w r back h htag hd hgrant hq hst => ?_⟩
  · intro t
    have hwake : t = s.dropWake r := rfl
    have ⟨_, _, hwait⟩ := h
    have hrunning : r.state ≠ .running := by rcases hst with e | e | e <;> simp [e]
    have hdisposition : dispositionOf r = if r.state = .queued then 0#8 else 1#8 := by
      unfold dispositionOf
      rcases hst with e | e | e <;> simp [e]
    have hcancel := cancelFound_of_not_running (s := s.pop rest) (w := w) hrunning
    rw [cancelNow_pop, cancelNow_of_split hd hq] at hcancel
    rw [exec_cancel_of_mem h htag hd (by simp [hq]) hcancel (by simpa using hwait), hdisposition, hwake]
  · intro marked
    have ⟨_, _, hwait⟩ := h
    have hr : r ∈ s.queue w := by simp [hq]
    have hcancel := cancelFound_of_running (s := s.pop rest) (w := w) hst
    refine ⟨fun habort ha => ?_, fun a habort ha => ?_, fun c habort => ?_⟩
    all_goals rw [habort] at hcancel
    · have hidle := requestAbort_of_idle (s := s.pop rest) (cause := .byCancel) hd hgrant hq hst ha
      rw [if_pos rfl, hidle, retireHead_pop, Scheduling.releaseAt_pop] at hcancel
      rw [exec_cancel_of_mem h htag hd hr hcancel (by simpa using hwait)]
      simp [dispositionOf, hst, habort, marked]
    · have hbusy := requestAbort_of_access (s := s.pop rest) (cause := .byCancel) hd hq ha
      rw [if_pos rfl, hbusy] at hcancel
      rw [exec_cancel_of_mem h htag hd hr (t := s.setQueue w (marked :: back)) hcancel (by simpa using hwait)]
      simp [dispositionOf, hst, habort]
    · rw [if_neg (by simp)] at hcancel
      rw [exec_cancel_of_mem h htag hd hr hcancel hwait]
      simp [dispositionOf, hst, habort]

end Sys2Proof.Cancellation
end

section
namespace Sys2Proof.Cancellation

open Sys2Proof Sys2Proof.Machine Sys2Proof.Windows

/-! ## FLUSH (R107, R113, R114) -/

section
variable {s : State} {m : Message} {rest : List Message} {w : Fin 6} {r : Record} {back : List Record}

theorem flushWindow_of_head (hq : s.queue w = r :: back) : s.flushWindow w = Records.flushed (s.dropWake r) w := by
  have hd : (s.dropWake r).queue w = r :: back := (queue_dropWake ..).trans hq
  have hbus : (s.dropWake r).bus = s.bus := by simp
  unfold State.flushWindow Records.flushed
  rw [hq, hd, hbus]

/-- Where the grant is another window's, or none, an empty queue stays as it is. -/
theorem flushWindow_of_empty (hq : s.queue w = []) (hgrant : s.sch.grant ≠ some w) : s.flushWindow w = s := by
  have hsame : s.setQueue w [] = s := by rw [← hq, setQueue_queue]
  have hjoin : s.joinBacklog [] = s := by simp [State.joinBacklog]
  unfold State.flushWindow
  rw [hq]
  simp [flushKept, flushRemoved, hsame, hjoin, State.dropGrant, hgrant]

/-- A head that is not RUNNING ends with the rest of its queue. -/
theorem flushed_of_not_running (hq : s.queue w = r :: back) (hst : r.state ≠ .running) (hgrant : s.sch.grant ≠ some w) :
    Records.flushed s w = (s.setQueue w []).joinBacklog ((r :: back).map fun x => x.endCancelled .byFlush) := by
  unfold Records.flushed
  rw [hq]
  simp [flushKept, flushRemoved, hst, State.dropGrant, hgrant]

/-- A RUNNING head whose access is in progress stays, marked (R107). -/
theorem flushed_of_access (hq : s.queue w = r :: back) (hst : r.state = .running) {a : Access} (ha : s.bus.access = some a) :
    Records.flushed s w = (s.setQueue w [{ r with abort := some (r.abort.getD .byFlush) }]).joinBacklog
      (back.map fun x => x.endCancelled .byFlush) := by
  unfold Records.flushed
  rw [hq, ha]
  simp [flushKept, flushRemoved, hst]

/-- With no access in progress a RUNNING head ends, and its grant with it (R70, R107). -/
theorem flushed_of_idle (hq : s.queue w = r :: back) (hst : r.state = .running) (ha : s.bus.access = none)
    (hgrant : s.sch.grant = some w) :
    let cause := r.abort.getD .byFlush
    Records.flushed s w = { ((s.setQueue w []).joinBacklog
      ({ r with abort := some cause }.endCancelled cause :: back.map fun x => x.endCancelled .byFlush)) with sch.grant := none } := by
  unfold Records.flushed
  rw [hq, ha]
  simp [flushKept, flushRemoved, hst, State.dropGrant, hgrant]

theorem flushWindow_dsp (s : State) (w : Fin 6) : (s.flushWindow w).dsp = s.dsp := by
  unfold State.flushWindow
  dsimp only
  split <;> split <;> simp

theorem flushWindow_pop (s : State) (rest : List Message) (w : Fin 6) : (s.pop rest).flushWindow w = (s.flushWindow w).pop rest := by
  unfold State.flushWindow
  dsimp only
  rw [queue_pop, apply_ite (fun t : State => t.pop rest), ← dropGrant_pop]
  cases s.queue w with
  | nil => rfl
  | cons r back =>
    dsimp only
    rw [dropWake_pop]
    rfl

theorem formatOk_flush (m : Message) : RequestKind.flush.formatOk m = true ↔ m.length = 2 := decide_eq_true_iff

theorem exec_flush (h : s.offers m rest) (hk : m.headD 0#8 = 0x03#8) : exec .flush s = .next ((s.pop rest).flush m) :=
  congrArg Host.Outcome.next (takeKind_of_offers (k := .flush) h hk State.flush)

theorem flush_of_no_window {b : Byte} (hb : 5 < b.toNat) : s.flush [0x03#8, b] = s.refuse .flush [0x03#8, b] .badWindow := by
  have hnone : windowOf (byteAt [0x03#8, b] 1) = none := (windowOf_eq_none_iff b).mpr hb
  unfold State.flush
  rw [if_pos ((formatOk_flush _).mpr rfl), hnone]

/-- The reply gives how many records a FLUSH has ended, and whether the head stays (R114). -/
theorem exec_flush_of_window (h : s.offers [0x03#8, byteOf w.val] rest) :
    exec .flush s = .next ((s.flushWindow w).answered rest 0x03#8 .accepted
      [byteOf w.val, byteOf (flushRemoved (s.queue w) s.bus.access.isSome).length,
        flagByte (decide (flushKept (s.queue w) s.bus.access.isSome ≠ []))]) := by
  have hwindow : windowOf (byteAt [0x03#8, byteOf w.val] 1) = some w := windowOf_byteOf w
  have hflush : (s.pop rest).flush [0x03#8, byteOf w.val] = ((s.pop rest).flushWindow w).accept .flush
      [byteOf w.val, byteOf (flushRemoved (s.queue w) s.bus.access.isSome).length,
        flagByte (decide (flushKept (s.queue w) s.bus.access.isSome ≠ []))] := by
    unfold State.flush
    rw [if_pos ((formatOk_flush _).mpr rfl), hwindow]
    rfl
  have ⟨_, _, hwait⟩ := h
  rw [exec_flush h rfl, hflush, flushWindow_pop, State.accept, reply_pop ((congrArg Dispatcher.holdWait (flushWindow_dsp s w)).trans hwait)]
  rfl

end

/-- Settles O28: the queue's discipline says what its head waits for and whom the grant names; the rest is FLUSH's own case split. -/
theorem flush : Obligations.Flush := by
  intro s rest hs
  obtain ⟨hsound, -⟩ := (Records.disciplined_iff s).mp hs
  refine ⟨fun b hb h => ?_, fun w h => ⟨fun hq => ?_, fun r back hq => ?_⟩⟩
  · have ⟨_, _, hwait⟩ := h
    rw [exec_flush h rfl, flush_of_no_window hb]
    exact congrArg Host.Outcome.next (reply_pop hwait ..)
  · have hhead : s.head w = none := by simp [State.head, hq]
    have hgrant : s.sch.grant ≠ some w := fun hg => by
      obtain ⟨r, hr, -⟩ := (hsound.window w).running.mp hg
      exact absurd (hhead.symm.trans hr) (by simp)
    rw [exec_flush_of_window h, flushWindow_of_empty hq hgrant, hq]
    rfl
  · intro gone cause
    have hhead : s.head w = some r := by simp [State.head, hq]
    have hgrant := hsound.granted_iff hhead
    obtain ⟨⟨-, hwake, -⟩, -⟩ := (hsound.window w).of_head hhead
    have hkeep : r.state = .running → s.dropWake r = s := fun hst => dropWake_of_no_wake (by simpa [hst] using hwake)
    have hq' : (s.dropWake r).queue w = r :: back := (queue_dropWake ..).trans hq
    rw [exec_flush_of_window h, flushWindow_of_head hq, hq]
    refine ⟨fun hst => ?_, fun a hst ha => ?_, fun hst ha => ?_⟩
    · rw [flushed_of_not_running hq' hst (by simpa [hgrant] using hst)]
      simp [flushRemoved, flushKept, hst, flagByte, gone, endCancelled_eq]
    · rw [hkeep hst, flushed_of_access hq hst ha, ha]
      simp [flushRemoved, flushKept, hst, flagByte, gone, cause, endCancelled_eq]
    · rw [hkeep hst, flushed_of_idle hq hst ha (hgrant.mpr hst), ha]
      simp [flushRemoved, flushKept, hst, flagByte, gone, cause, endCancelled_eq]

end Sys2Proof.Cancellation
end

section
namespace Sys2Proof.Cancellation

open Sys2Proof Sys2Proof.Machine Sys2Proof.Windows

/-! ## CLEAR FAULT (R117, R118) -/

section
variable {s : State} {m : Message} {rest : List Message} {w : Fin 6} {discard : Bool}

theorem formatOk_clearFault (m : Message) : RequestKind.clearFault.formatOk m = true ↔ m.length = 3 := decide_eq_true_iff

theorem exec_clearFault (h : s.offers m rest) (hk : m.headD 0#8 = 0x05#8) : exec .clearFault s = .next ((s.pop rest).clearFault m) :=
  congrArg Host.Outcome.next (takeKind_of_offers (k := .clearFault) h hk State.clearFault)

theorem clearFault_of_length (hlen : m.length ≠ 3) : s.clearFault m = s.refuseFormat m := by
  unfold State.clearFault
  rw [if_neg (mt (formatOk_clearFault m).mp hlen)]

theorem clearFault_of_no_window (hlen : m.length = 3) (hw : windowOf (byteAt m 1) = none) :
    s.clearFault m = s.refuse .clearFault m .badWindow := by
  unfold State.clearFault
  rw [if_pos ((formatOk_clearFault m).mpr hlen), hw]

theorem clearFault_of_no_mode (hlen : m.length = 3) (hw : windowOf (byteAt m 1) = some w) (hmode : discardOf (byteAt m 2) = none) :
    s.clearFault m = s.refuse .clearFault m .badValue := by
  unfold State.clearFault
  rw [if_pos ((formatOk_clearFault m).mpr hlen), hw, hmode]

/-- With both fields in range one check is left: the window is FAULTED. -/
theorem clearFault_of_fields (hlen : m.length = 3) (hw : windowOf (byteAt m 1) = some w) (hmode : discardOf (byteAt m 2) = some discard) :
    s.clearFault m = if (s.window w).state ≠ .faulted then s.refuse .clearFault m .notFaulted
      else (s.clearWindow w discard).accept .clearFault [byteAt m 1, if discard then byteOf (s.queue w).length else 0#8] := by
  unfold State.clearFault
  rw [if_pos ((formatOk_clearFault m).mpr hlen), hw, hmode]

theorem clearWindow_pop (s : State) (rest : List Message) (w : Fin 6) (discard : Bool) :
    (s.pop rest).clearWindow w discard = (s.clearWindow w discard).pop rest := by
  cases discard <;> rfl

theorem clearWindow_dsp (s : State) (w : Fin 6) (discard : Bool) : (s.clearWindow w discard).dsp = s.dsp := by
  cases discard <;> rfl

/-- A FAULTED window is cleared, with RESUME or with DISCARD. -/
theorem exec_clearFault_of_faulted (h : s.offers [0x05#8, byteOf w.val, flagByte discard] rest) (hf : (s.window w).state = .faulted) :
    exec .clearFault s = .next ((s.clearWindow w discard).answered rest 0x05#8 .accepted
      [byteOf w.val, if discard then byteOf (s.queue w).length else 0#8]) := by
  have hw : windowOf (byteAt [0x05#8, byteOf w.val, flagByte discard] 1) = some w := windowOf_byteOf w
  have hmode : discardOf (byteAt [0x05#8, byteOf w.val, flagByte discard] 2) = some discard := yesNo_flagByte discard
  have ⟨_, _, hwait⟩ := h
  have haccept := (clearFault_of_fields (s := s.pop rest) rfl hw hmode).trans (if_neg (not_not.mpr hf))
  rw [exec_clearFault h rfl, haccept, clearWindow_pop]
  exact congrArg Host.Outcome.next (reply_pop ((congrArg Dispatcher.holdWait (clearWindow_dsp s w discard)).trans hwait) ..)

end

/-- Settles O31: the model's checks are these in this order, and the window is cleared by its mode. -/
theorem clearFault : Obligations.ClearFault := by
  intro s m rest h hk
  refine ⟨?_, fun w hf => ⟨fun hm => ?_, fun hm => ?_⟩⟩
  · have hexec := exec_clearFault h hk
    obtain ⟨-, -, hwait⟩ := h
    by_cases hlen : m.length = 3
    case neg =>
      refine refusedFirst_of_refuseFormat (k := .clearFault) (by simp [firstFailure_cons, hlen]) hk hwait ?_
      rw [hexec, clearFault_of_length hlen]
    by_cases hw : 5 < (byteAt m 1).toNat
    · refine refusedFirst_of_refuse (k := .clearFault) (code := .badWindow) (by simp [firstFailure_cons, hlen, hw]) (by decide) hwait ?_
      rw [hexec, clearFault_of_no_window hlen ((windowOf_eq_none_iff _).mpr hw)]
    have hwindow := windowOf_of_le (Nat.not_lt.mp hw)
    generalize Fin.ofNat 6 (byteAt m 1).toNat = w at hwindow ⊢
    by_cases hv : 1 < (byteAt m 2).toNat
    · refine refusedFirst_of_refuse (k := .clearFault) (code := .badValue) (by simp [firstFailure_cons, hlen, hw, hv]) (by decide) hwait ?_
      rw [hexec, clearFault_of_no_mode hlen hwindow ((yesNo_eq_none_iff _).mpr hv)]
    obtain ⟨discard, hmode⟩ := Option.ne_none_iff_exists'.mp (mt (yesNo_eq_none_iff _).mp hv)
    have hfields := clearFault_of_fields (s := s.pop rest) hlen hwindow hmode
    by_cases hf : (s.window w).state = .faulted
    · have haccept := hfields.trans (if_neg (not_not.mpr hf))
      exact refusedFirst_of_accept (k := .clearFault) (by simp [firstFailure_cons, firstFailure_nil, hlen, hw, hv, hf])
        (hexec.trans (congrArg _ haccept))
    · refine refusedFirst_of_refuse (k := .clearFault) (code := .notFaulted) (by simp [firstFailure_cons, hlen, hw, hv, hf]) (by decide)
        hwait (hexec.trans ?_)
      exact congrArg _ (hfields.trans (if_pos hf))
  all_goals subst hm
  · exact exec_clearFault_of_faulted (discard := false) h hf
  · exact exec_clearFault_of_faulted (discard := true) h hf

end Sys2Proof.Cancellation
end

section
namespace Sys2Proof.Resets

open Sys2Proof Sys2Proof.Machine

/-! PROOF. Resets (O4, O5, O6, O7): what a reset leaves of every block, of scratch memory and of the pins, how the link announces after
it, and that the power-on state has every invariant. -/

/-! ## The blocks (R20, R50, R65, R86, R91, R126, R145, R146, R159, R172) -/

section
variable {s t : State} {cause : ResetCause} {scratch : List Host.Cell} {data : Word} {holding : Bool}

/-- A state whose blocks are those of the reset values, whatever its levels, its scratch memory and its rate. -/
theorem blocksReset_of_values {baud : BitVec 2} {pins : Option (Nat × Pins)} (hwin : ∀ w, t.window w = Window.reset)
    (hepoch : t.epoch = 0#16) (hsch : t.sch = Scheduler.reset)
    (hbus : t.bus = { BusEngine.reset scratch with dHeld := data, resetPins := pins })
    (hline : ∀ l, ∃ level, t.line l = Line.reset level) (hdsp : t.dsp = Dispatcher.reset) (hrpt : t.rpt = Reporter.reset)
    (hlnk : t.lnk = Link.reset cause baud) : t.blocksReset cause := by
  unfold State.blocksReset
  rw [hbus, hlnk]
  refine ⟨hwin, hepoch, hsch, rfl, rfl, rfl, rfl, rfl, rfl, rfl, rfl, rfl, fun l => ?_, hdsp, hrpt, rfl, rfl, rfl, rfl, rfl,
    rfl, rfl, rfl, rfl, rfl, rfl, rfl, rfl, rfl, rfl, rfl⟩
  obtain ⟨level, hl⟩ := hline l
  rw [hl]
  exact ⟨rfl, rfl, rfl, rfl, rfl, rfl, rfl, rfl, rfl, rfl, rfl⟩

theorem line_resetBlocks (l : Fin 8) : (s.resetBlocks cause scratch data holding).line l = Line.reset (s.line l).input := by
  simp [State.resetBlocks, State.line]

/-- A reset puts every block in its reset state, whatever it finds. -/
theorem blocksReset_resetBlocks (s : State) (cause : ResetCause) (scratch : List Host.Cell) (data : Word) (holding : Bool) :
    (s.resetBlocks cause scratch data holding).blocksReset cause :=
  blocksReset_of_values (Records.reset_window cause scratch data holding) rfl rfl rfl (fun l => ⟨_, line_resetBlocks l⟩) rfl rfl rfl

/-- What the link's announcement finds after a reset. -/
theorem link_of_blocksReset (h : s.blocksReset cause) :
    s.dsp = Dispatcher.reset ∧ s.rpt = Reporter.reset ∧ s.lnk.state = .start ∧ s.lnk.cause = cause := by
  obtain ⟨-, -, -, -, -, -, -, -, -, -, -, -, -, hdsp, hrpt, hstate, hcause, -⟩ := h
  exact ⟨hdsp, hrpt, hstate, hcause⟩

end

end Sys2Proof.Resets
end

section
namespace Sys2Proof.Resets

open Sys2Proof Sys2Proof.Machine Sys2Proof.BusCycles

/-! ## Scratch memory (R64, R120) -/

section
variable {s : State}

theorem scratchWriteInProgress_spec {a : Access} (h : s.scratchWriteInProgress = some a) :
    s.bus.access = some a ∧ (s.window a.window).profile.target = .scratch ∧ a.kind = .write := by
  unfold State.scratchWriteInProgress at h
  split at h
  · cases h
  · rename_i b hb
    obtain ⟨⟨htarget, hkind, -⟩, e⟩ := Option.ite_none_right_eq_some.mp h
    obtain rfl := Option.some.inj e
    exact ⟨hb, htarget, hkind⟩

/-- A reset that keeps scratch memory leaves it, or has taken the whole unit of the write that it abandons. -/
theorem scratchKept_resetBlocks (s : State) (cause : ResetCause) (data : Word) (holding : Bool) :
    s.scratchKept (s.resetBlocks cause s.keptScratch data holding) := by
  have hscratch : (s.resetBlocks cause s.keptScratch data holding).bus.scratch = s.keptScratch := rfl
  unfold State.scratchKept
  rw [hscratch]
  unfold State.keptScratch
  split
  · exact .inl rfl
  · rename_i a ha
    obtain ⟨hacc, htarget, hkind⟩ := scratchWriteInProgress_spec ha
    split
    · exact .inr ⟨a, hacc, htarget, hkind, rfl⟩
    · exact .inl rfl

end

/-! ## The pins around a reset (R91, R104, R120) -/

section
variable {s t : State} {r : Release}

theorem levelOf_inactive (q : Polarity) : levelOf q false = if q = .highActive then .low else .high := by cases q <;> rfl

theorem resetTickPins_of_first (h : ∀ x ∈ s.bus.resetPins, x.1 < s.now) : s.resetTickPins = s.abandonedPins := by
  unfold State.resetTickPins
  split
  · rename_i n p hx
    exact if_neg (Nat.not_le.mpr (h (n, p) hx))
  · rfl

theorem resetTickPins_of_second {x : Nat × Pins} (hx : s.bus.resetPins = some x) (hnow : s.now ≤ x.1) : s.resetTickPins = x.2 := by
  simp [State.resetTickPins, hx, hnow]

theorem abandonedPins_of_released (hr : s.bus.release = some r) (hat : r.at_ < s.now) : s.abandonedPins = floatingPins false := by
  simp [State.abandonedPins, hr, hat]

/-- While the outputs do not float, a reset leaves those of rest, with some level held on D. -/
theorem abandonedPins_of_driven (h : ∀ r, s.bus.release = some r → s.now ≤ r.at_) :
    ∃ held, s.abandonedPins = { s.restPins with weakHold := some held } := by
  unfold State.abandonedPins
  split
  · rename_i r hr
    exact ⟨s.bus.dHeld, if_neg (Nat.not_lt.mpr (h r hr))⟩
  · exact ⟨s.dataLevels, rfl⟩

theorem abandonedPins_bgnt (s : State) : s.abandonedPins.bgnt = false := by
  unfold State.abandonedPins
  split
  · split <;> rfl
  · rfl

/-- The rest levels of a reset bus with reset windows (R91). -/
theorem restPins_of_reset (hwin : ∀ w, t.window w = Window.reset) (hstrobe : t.bus.strobePolarity = .lowActive)
    (hadv : t.bus.advPolarity = .lowActive) (ha : t.bus.aHeld = 0#16) : t.restPins = {
      cs := Vector.replicate 6 .high, rds := .high, wrs := .high, adv0 := .high, adv1 := .high
      a := some 0#16, dLow := none, dHigh := none, weakHold := some t.bus.dHeld, bgnt := false } := by
  have hcs : t.chipSelects none = Vector.replicate 6 .high := by
    unfold State.chipSelects
    simp only [hwin]
    decide
  unfold State.restPins
  rw [hcs, hstrobe, hadv, ha]
  rfl

/-- The pins around any reset: the tick's own are given by what it finds, the later ones by what it leaves. -/
theorem pinsReset_resetBlocks (s : State) (cause : ResetCause) (scratch : List Host.Cell) (data : Word) (holding : Bool) :
    s.pinsReset (s.resetBlocks cause scratch data holding) := by
  have htick : ∀ data' rdy, (s.resetBlocks cause scratch data holding).pins data' rdy = s.resetTickPins :=
    fun _ _ => pins_in_reset (x := (s.now, s.resetTickPins)) rfl (Nat.le_refl s.now)
  unfold State.pinsReset
  intro inactive
  refine ⟨fun data' rdy hfirst => ?_, fun data' rdy x hx hnow => ?_, fun data' rdy n hn => ?_⟩
  · intro p
    have hp : p = s.abandonedPins := (htick data' rdy).trans (resetTickPins_of_first hfirst)
    rw [hp]
    refine ⟨abandonedPins_bgnt s, fun r hr hat => abandonedPins_of_released hr hat, fun hdriven => ?_⟩
    obtain ⟨held, heq⟩ := abandonedPins_of_driven hdriven
    rw [heq]
    exact ⟨fun w => (chipSelects_getElem s none w).trans (levelOf_inactive _), levelOf_inactive _, levelOf_inactive _,
      levelOf_inactive _, levelOf_inactive _, rfl, rfl, rfl, rfl⟩
  · exact (htick data' rdy).trans (resetTickPins_of_second hx hnow)
  · have hlater : ∀ x ∈ (s.resetBlocks cause scratch data holding).bus.resetPins, x.1 < n := fun x hx => by
      obtain rfl := Option.some.inj hx
      exact hn
    rw [pins_of_engine hlater, enginePins_at_rest (by simp [State.resetBlocks, BusEngine.reset])
      (by simp [State.resetBlocks, BusEngine.reset])]
    exact restPins_of_reset (t := { s.resetBlocks cause scratch data holding with now := n })
      (Records.reset_window (s := s) cause scratch data holding) rfl rfl rfl

end

/-- Settles O4: both put every block in its reset state by the one reset of the whole part. -/
theorem resetsFromOutside : Obligations.ResetsFromOutside := fun s =>
  ⟨⟨s.powerOn, rfl, blocksReset_resetBlocks .., rfl, rfl, rfl, rfl, rfl, rfl, rfl, pinsReset_resetBlocks ..⟩,
    ⟨s.assertReset, rfl, blocksReset_resetBlocks .., rfl, rfl, rfl, rfl, rfl, rfl, scratchKept_resetBlocks .., pinsReset_resetBlocks ..⟩⟩

end Sys2Proof.Resets
end

section
namespace Sys2Proof.Resets

open Sys2Proof Sys2Proof.Machine

/-! ## The link announces (R185, R187, R188) -/

section
variable {s : State} {cause : ResetCause} {rest : List Message} {baud : BitVec 2} {atn : BitVec 8}

/-- What the start of announcing leaves: the announce timer, and the frame of Table 11-8 on TXD. -/
def announced (s : State) (cause : ResetCause) : State := { s with
  lnk.announce := some (s.now + 4000000)
  lnk.resyncDue := false
  lnk.tx := some {
    kind := .resync, begun := s.now
    bytes := frameBytes 0x04#8 0x00#8 [0x20#8, 0x41#8, 0x01#8, cause.byte, 6#8, 48#8, 32#8, 8#8, 4#8, 0#8, 0#8, 0#8, 0#8] } }

theorem line_announced (l : Fin 8) : (announced s cause).line l = s.line l := Operations.line_congr rfl l

/-- After a reset the message carries serial 0 and count 0 beside the part's constants. -/
theorem announceMessage_of_blocksReset (h : s.blocksReset cause) (x : ResetCause) : s.announceMessage x =
    [0x20#8, 0x41#8, 0x01#8, x.byte, 6#8, 48#8, 32#8, 8#8, 4#8, 0#8, 0#8, 0#8, 0#8] := by
  obtain ⟨hdsp, hrpt, -⟩ := link_of_blocksReset h
  unfold State.announceMessage
  rw [hdsp, hrpt]
  rfl

/-- In START with TXD idle and no RESYNC-REPLY due, a RESYNC that is due begins (R185). -/
theorem transmit_of_resyncDue (htx : s.lnk.tx = none) (hreply : s.lnk.resyncReplyDue = false) (hstate : s.lnk.state = .start)
    (hdue : s.lnk.resyncDue = true) : s.transmit =
      { (s.sendFrame .resync (frameBytes 0x04#8 0#8 (s.announceMessage s.lnk.cause))) with lnk.resyncDue := false } := by
  simp [State.transmit, Link.announceCause, htx, hreply, hstate, hdue]

/-- The announcement begins at once after a reset, with TXD idle and no RESYNC-REPLY due. -/
theorem startAnnouncing_of_blocksReset (h : s.blocksReset cause) (htx : s.lnk.tx = none) (hreply : s.lnk.resyncReplyDue = false) :
    s.startAnnouncing = announced s cause := by
  have hmessage := announceMessage_of_blocksReset h s.lnk.cause
  obtain ⟨-, -, hstate, hcause⟩ := link_of_blocksReset h
  let t : State := { s with lnk.announce := some (s.now + Config.ms 100), lnk.resyncDue := true }
  have hsend : s.startAnnouncing = { (t.sendFrame .resync (frameBytes 0x04#8 0#8 (s.announceMessage s.lnk.cause))) with
      lnk.resyncDue := false } := transmit_of_resyncDue (s := t) htx hreply hstate rfl
  rw [hsend, hmessage, hcause]
  rfl

/-- Announcing leaves every block in its reset state. -/
theorem blocksReset_announced (h : s.blocksReset cause) : (announced s cause).blocksReset cause := h

theorem exec_resetDevice (h : s.offers [0x0C#8] rest) (hh : s.holding = false) :
    exec .resetDevice s = .next (State.startAnnouncing
      ((s.pop rest).resetBlocks .soft (s.pop rest).keptScratch (s.pop rest).dataLevels false)) := by
  have htake := Cancellation.takeKind_of_offers (k := .resetDevice) h rfl State.resetDevice
  refine congrArg Host.Outcome.next (htake.trans ?_)
  unfold State.resetDevice State.softReset
  rw [if_pos (by rfl), if_neg (by simp [hh])]

/-- What the end of the holding state samples (R122, R126, R173). -/
def sampled (s : State) (baud : BitVec 2) (atn : BitVec 8) : State := { s with
  holding := false
  lnk.baud := baud
  atn := Vector.ofFn fun l : Fin 8 => { s.line l with level := atn.getLsbD l.val, pendingChange := none } }

theorem exec_resetRelease (hh : s.holding = true) : exec (.resetRelease baud atn) s = .next (sampled s baud atn).startAnnouncing :=
  congrArg Host.Outcome.next (if_pos hh)

theorem line_sampled (l : Fin 8) : (sampled s baud atn).line l =
    { s.line l with level := atn.getLsbD l.val, pendingChange := none } := by
  simp [State.line, sampled]

/-- The samples leave every block in its reset state. -/
theorem blocksReset_sampled (h : s.blocksReset cause) : (sampled s baud atn).blocksReset cause := by
  obtain ⟨hwin, hepoch, hsch, hacc, hown, hrec, hshare, hlimit, hrel, ha, hstrobe, hadv, hline, hmore⟩ := h
  refine ⟨hwin, hepoch, hsch, hacc, hown, hrec, hshare, hlimit, hrel, ha, hstrobe, hadv, fun l => ?_, hmore⟩
  obtain ⟨hmode, hpri, hfilter, hreport, hcount, hlost, hedge, hstamp, hout, hwait, -⟩ := hline l
  rw [line_sampled]
  exact ⟨hmode, hpri, hfilter, hreport, hcount, hlost, hedge, hstamp, hout, hwait, rfl⟩

end

/-- Settles O5: the message taken is gone with the blocks reset, and what it finds of bus and windows is as it was before. -/
theorem resetDevice : Obligations.ResetDevice := by
  intro s rest h hh
  have hblocks := blocksReset_resetBlocks (s.pop rest) .soft (s.pop rest).keptScratch (s.pop rest).dataLevels false
  have hkept : s.scratchKept _ := scratchKept_resetBlocks (s.pop rest) .soft (s.pop rest).dataLevels false
  have hpins : s.pinsReset _ := pinsReset_resetBlocks (s.pop rest) .soft (s.pop rest).keptScratch (s.pop rest).dataLevels false
  have hexec := exec_resetDevice h hh
  rw [startAnnouncing_of_blocksReset hblocks rfl rfl] at hexec
  exact ⟨_, hexec, blocksReset_announced hblocks, rfl, rfl, rfl, rfl, rfl, hkept, hpins, rfl, rfl⟩

/-- Settles O6: the samples leave the reset blocks as they are, and the announcement begins from them. -/
theorem resetRelease : Obligations.ResetRelease := by
  intro s cause baud atn hh hs htx hreply
  have hblocks := blocksReset_sampled (baud := baud) (atn := atn) hs
  have hexec := exec_resetRelease (baud := baud) (atn := atn) hh
  rw [startAnnouncing_of_blocksReset hblocks htx hreply] at hexec
  have hlevel : ∀ l, ((announced (sampled s baud atn) cause).line l).level = atn.getLsbD l.val := fun l => by
    rw [line_announced, line_sampled]
  exact ⟨_, hexec, rfl, blocksReset_announced hblocks, rfl, hlevel, rfl, rfl, rfl, rfl, rfl, rfl, rfl⟩

end Sys2Proof.Resets
end

section
namespace Sys2Proof.Resets

open Sys2Proof Sys2Proof.Machine

/-! ## The state after power-on (R64, R122) -/

theorem blocksReset_reset : State.reset.blocksReset .power :=
  blocksReset_of_values (by decide) rfl rfl rfl (fun l => ⟨false, by revert l; decide⟩) rfl rfl rfl

/-- Settles O7: one closed state, whose queues, lines and reports are empty. -/
theorem resetState : Obligations.ResetState :=
  ⟨blocksReset_reset, rfl, rfl, rfl, by decide, by decide, by decide, by decide, by decide, by decide, by decide, by decide, by decide⟩

end Sys2Proof.Resets
end

section
namespace Sys2Proof.Attention

open Sys2Proof Sys2Proof.Machine Sys2Proof.Records Sys2Proof.Operations

/-! PROOF. The attention lines (O3, O13, O15, O32, O59, O60). -/

/-! ## Age stamps in ranks (R127, R132) -/

theorem mem_allLines (l : Fin 8) : l ∈ allLines := by revert l; decide

theorem nodup_allLines : allLines.Nodup := by decide

/-- What `State.stampsRanked` says, line by line. -/
structure Ranked (s : State) : Prop where
  held : ∀ l, (s.line l).stamp.isSome = true ↔ 0 < (s.line l).count
  count : ∀ l, (s.line l).count ≤ 255
  distinct : ∀ k l n, (s.line k).stamp = some n → (s.line l).stamp = some n → k = l
  range : ∀ l n, (s.line l).stamp = some n → 1 ≤ n ∧ n ≤ s.stamps

theorem length_stampList (s : State) : s.stampList.length = s.stamps := by
  rw [State.stampList, List.length_filterMap_eq_countP, List.countP_eq_length_filter, State.stamps]

theorem nodup_stampList_iff (s : State) :
    s.stampList.Nodup ↔ ∀ k l n, (s.line k).stamp = some n → (s.line l).stamp = some n → k = l := by
  unfold State.stampList List.Nodup
  rw [List.pairwise_filterMap]
  constructor
  · intro h k l n hk hl
    by_contra hne
    have : Std.Symm fun a b : Fin 8 => ∀ m, (s.line a).stamp = some m → ∀ m', (s.line b).stamp = some m' → m ≠ m' :=
      ⟨fun a b hab m hm m' hm' => (hab m' hm' m hm).symm⟩
    exact h.forall (mem_allLines k) (mem_allLines l) hne n hk n hl rfl
  · intro h
    refine nodup_allLines.imp fun hab m hm m' hm' e => ?_
    subst e
    exact hab (h _ _ m hm hm')

theorem stampsRanked_iff (s : State) : s.stampsRanked = true ↔ Ranked s := by
  simp only [State.stampsRanked, Bool.and_eq_true, List.all_eq_true, decide_eq_true_eq, nodup_stampList_iff, length_stampList]
  constructor
  · rintro ⟨⟨hl, hd⟩, hr⟩
    exact ⟨fun l => (hl l (mem_allLines l)).1, fun l => (hl l (mem_allLines l)).2, hd,
      fun l n hn => hr n (List.mem_filterMap.mpr ⟨l, mem_allLines l, hn⟩)⟩
  · rintro ⟨hheld, hcount, hd, hr⟩
    refine ⟨⟨fun l _ => ⟨hheld l, hcount l⟩, hd⟩, fun n hn => ?_⟩
    obtain ⟨l, -, hl⟩ := List.mem_filterMap.mp hn
    exact hr l n hl

/-- The stamps held are those of the other lines, and the line's own. -/
theorem stamps_split (s : State) (l : Fin 8) :
    s.stamps = s.otherStamps l + if (s.line l).stamp.isSome then 1 else 0 := by
  have hother : s.otherStamps l = ((allLines.erase l).filter fun k => (s.line k).stamp.isSome).length := by
    rw [nodup_allLines.erase_eq_filter, List.filter_filter, State.otherStamps]
    refine congrArg List.length (List.filter_congr fun k _ => ?_)
    rw [Bool.and_comm]
    by_cases h : k = l <;> simp [h]
  rw [State.stamps, ((List.perm_cons_erase (mem_allLines l)).filter _).length_eq, hother, List.filter_cons]
  split <;> simp

section
variable {s t : State} {l : Fin 8} {x : Line}

theorem stamps_congr (h : ∀ k, (t.line k).stamp.isSome = (s.line k).stamp.isSome) : t.stamps = s.stamps :=
  congrArg List.length (List.filter_congr fun k _ => h k)

theorem otherStamps_congr (h : ∀ k, k ≠ l → (t.line k).stamp.isSome = (s.line k).stamp.isSome) :
    t.otherStamps l = s.otherStamps l := by
  refine congrArg List.length (List.filter_congr fun k _ => ?_)
  by_cases hk : k = l
  · simp [hk]
  · rw [h k hk]

/-- Stamps and counts as they were are in ranks as they were. -/
theorem Ranked.congr (h : Ranked s) (he : ∀ k, (t.line k).stamp = (s.line k).stamp ∧ (t.line k).count = (s.line k).count) :
    Ranked t := by
  have hstamps : t.stamps = s.stamps := stamps_congr fun k => by rw [(he k).1]
  refine ⟨fun k => ?_, fun k => ?_, fun k l n => ?_, fun k n => ?_⟩
  · rw [(he k).1, (he k).2]; exact h.held k
  · rw [(he k).2]; exact h.count k
  · rw [(he k).1, (he l).1]; exact h.distinct k l n
  · rw [(he k).1, hstamps]; exact h.range k n

theorem Ranked.setLine (h : Ranked s) (hstamp : x.stamp = (s.line l).stamp) (hcount : x.count = (s.line l).count) :
    Ranked (s.setLine l x) := by
  refine h.congr fun k => ?_
  rw [line_setLine]
  split
  · subst k; exact ⟨hstamp, hcount⟩
  · exact ⟨rfl, rfl⟩

/-- A line that holds events goes on to another number of them. -/
theorem Ranked.setCount (h : Ranked s) {n : Nat} (hn : n ≠ 0) (hle : n ≤ 255) (hpos : 0 < (s.line l).count) :
    Ranked (s.setLine l { s.line l with count := n }) := by
  have hstamp : ∀ k, ((s.setLine l { s.line l with count := n }).line k).stamp = (s.line k).stamp := fun k => by
    rw [line_setLine]; split
    · subst k; rfl
    · rfl
  have hstamps := stamps_congr fun k => congrArg Option.isSome (hstamp k)
  refine ⟨fun k => ?_, fun k => ?_, fun k m n => ?_, fun k n => ?_⟩
  · rw [hstamp, h.held, line_setLine]
    split
    · subst k; exact iff_of_true hpos (Nat.pos_of_ne_zero hn)
    · rfl
  · rw [line_setLine]
    split
    · exact hle
    · exact h.count k
  · rw [hstamp, hstamp]; exact h.distinct k m n
  · rw [hstamp, hstamps]; exact h.range k n

/-- The stamp of another line after line `l` has given up its own. -/
theorem stamp_of_lineCleared (h : Ranked s) (hc : s.lineCleared t l x) {k : Fin 8} (hk : k ≠ l) {n : Nat}
    (hn : (t.line k).stamp = some n) : ∃ m, (s.line k).stamp = some m ∧ 1 ≤ n ∧ n ≤ s.otherStamps l ∧
      ∀ g, (s.line l).stamp = some g → m ≠ g ∧ n = if g < m then m - 1 else m := by
  obtain ⟨-, -, hothers⟩ := hc
  rw [hothers k hk] at hn
  obtain ⟨m, hm, rfl⟩ := Option.map_eq_some_iff.mp hn
  have hrange := h.range k m hm
  rw [stamps_split s l] at hrange
  refine ⟨m, hm, ?_⟩
  cases hg : (s.line l).stamp with
  | none => simpa [hg] using hrange
  | some g =>
    have hgrange := h.range l g hg
    rw [stamps_split s l] at hgrange
    have hne : m ≠ g := by
      rintro rfl
      exact hk (h.distinct k l m hm hg)
    simp only [hg, Option.isSome_some, if_true, Option.any_some, decide_eq_true_eq, Option.some.injEq, forall_eq'] at hrange hgrange ⊢
    refine ⟨?_, ?_, hne, trivial⟩ <;> split <;> omega

/-- A line whose events are gone leaves the other stamps in ranks, and takes the newest with a new event (R127, R131). -/
theorem Ranked.lineCleared (h : Ranked s) (hc : s.lineCleared t l x) : Ranked t := by
  have hothers := fun {k n} => stamp_of_lineCleared h hc (k := k) (n := n)
  have hstamps : t.stamps = s.otherStamps l + if (t.line l).stamp.isSome then 1 else 0 := by
    rw [stamps_split t l, otherStamps_congr (s := s) fun k hk => by rw [hc.2.2 k hk, Option.isSome_map]]
  have hown : (t.line l).stamp = none ∧ (t.line l).count = 0 ∨ (t.line l).stamp = some (s.otherStamps l + 1) ∧ (t.line l).count = 1 := by
    rw [hc.2.1]
    split
    · exact .inr ⟨rfl, rfl⟩
    · exact .inl ⟨rfl, rfl⟩
  have hnew : ∀ n, (t.line l).stamp = some n → n = s.otherStamps l + 1 := fun n hn => by
    rcases hown with ⟨e, -⟩ | ⟨e, -⟩ <;> rw [e] at hn <;> cases hn
    rfl
  refine ⟨fun k => ?_, fun k => ?_, fun j k n hj hk => ?_, fun k n hn => ?_⟩
  · by_cases hk : k = l
    · subst k; rcases hown with ⟨e, e'⟩ | ⟨e, e'⟩ <;> simp [e, e']
    · rw [hc.2.2 k hk]; simpa using h.held k
  · by_cases hk : k = l
    · subst k; rcases hown with ⟨-, e'⟩ | ⟨-, e'⟩ <;> omega
    · rw [hc.2.2 k hk]; exact h.count k
  · by_cases hjl : j = l <;> by_cases hkl : k = l
    · rw [hjl, hkl]
    · obtain ⟨_, -, -, hle, -⟩ := hothers hkl hk
      have := hnew n (hjl ▸ hj)
      omega
    · obtain ⟨_, -, -, hle, -⟩ := hothers hjl hj
      have := hnew n (hkl ▸ hk)
      omega
    · obtain ⟨a, ha, -, -, hga⟩ := hothers hjl hj
      obtain ⟨b, hb, -, -, hgb⟩ := hothers hkl hk
      suffices a = b from h.distinct j k a ha (this ▸ hb)
      cases hg : (s.line l).stamp with
      | none =>
        rw [hc.2.2 j hjl, ha] at hj
        rw [hc.2.2 k hkl, hb] at hk
        simp only [hg, Option.any_none, Option.map_some, Option.some.injEq, Bool.false_eq_true, if_false] at hj hk
        omega
      | some g =>
        obtain ⟨hne, hn⟩ := hga g hg
        obtain ⟨hne', hn'⟩ := hgb g hg
        split at hn <;> split at hn' <;> omega
  · rw [hstamps]
    by_cases hk : k = l
    · subst k
      have := hnew n hn
      simp only [hn, Option.isSome_some, if_true]
      omega
    · obtain ⟨_, -, h1, hle, -⟩ := hothers hk hn
      omega

theorem Ranked.lowerCount (h : Ranked s) {n : Nat} (hn : n ≠ 0 → n ≤ 255 ∧ 0 < (s.line l).count) : Ranked (s.lowerCount l n) := by
  by_cases hz : n = 0
  · have hc := lineCleared_lowerCount s l (x := s.line l) rfl
    rw [hz, ← setLine_line s l]
    exact h.lineCleared hc
  · rw [lowerCount_of_pos s l hz]
    exact h.setCount hz (hn hz).1 (hn hz).2

/-- The first event of a line brings it the newest stamp, a later one raises its count, and at 255 the event is lost (R130). -/
theorem Ranked.recordEvent (h : Ranked s) (l : Fin 8) : Ranked (s.recordEvent l) := by
  by_cases hz : (s.line l).count = 0
  · have hnone : (s.line l).stamp = none := by
      cases hs : (s.line l).stamp with
      | none => rfl
      | some n => exact absurd ((h.held l).mp (by simp [hs])) (by omega)
    have hline := fun k => line_recordEvent_of_zero hz k
    have hstamps : (s.recordEvent l).stamps = s.stamps + 1 := by
      have hother : (s.recordEvent l).otherStamps l = s.otherStamps l := otherStamps_congr fun k hk => by rw [hline, if_neg hk]
      rw [stamps_split _ l, stamps_split s l, hother, hline, if_pos rfl]
      simp [hnone]
    refine ⟨fun k => ?_, fun k => ?_, fun j k n hj hk => ?_, fun k n hn => ?_⟩
    · rw [hline]; split
      · simp
      · exact h.held k
    · rw [hline]; split
      · simp
      · exact h.count k
    · rw [hline] at hj hk
      split at hj <;> split at hk
      · simp [*]
      · have := (h.range k n hk).2
        cases hj
        omega
      · have := (h.range j n hj).2
        cases hk
        omega
      · exact h.distinct j k n hj hk
    · rw [hstamps]
      rw [hline] at hn
      split at hn
      · cases hn; omega
      · have := h.range k n hn
        omega
  · unfold State.recordEvent
    rw [if_neg hz]
    split
    · exact h.setCount (by omega) (by omega) (by omega)
    · exact h.setLine rfl rfl

theorem Ranked.rearm (h : Ranked s) (l : Fin 8) : Ranked (s.rearm l) := by
  unfold State.rearm
  split
  · exact h.recordEvent l
  · exact h

end

end Sys2Proof.Attention
end

section
namespace Sys2Proof.Attention

open Sys2Proof Sys2Proof.Machine Sys2Proof.Records Sys2Proof.Operations

/-! ## What deliveries leave of a line (R132, R134) -/

/-- A line but for its events and its waiters. -/
def settings (x : Line) : Line := { x with count := 0, stamp := none, waiters := [] }

/-- From `s` to `t` lines have given up events and waiters, or a level line has recorded an event anew: settings stand, and stamps stay
in ranks. -/
structure Consumes (s t : State) : Prop where
  settings : ∀ l, settings (t.line l) = settings (s.line l)
  ranked : Ranked s → Ranked t

section
variable {s t u : State} {l : Fin 8} {w : Fin 6} {r : Record}

theorem Consumes.trans (h : Consumes s t) (k : Consumes t u) : Consumes s u :=
  ⟨fun l => (k.settings l).trans (h.settings l), fun hs => k.ranked (h.ranked hs)⟩

theorem Consumes.of_atn (h : t.atn = s.atn) : Consumes s t :=
  ⟨fun l => by rw [line_congr h], fun hs => hs.congr fun l => by rw [line_congr h]; exact ⟨rfl, rfl⟩⟩

theorem Consumes.refl (s : State) : Consumes s s := .of_atn rfl

theorem Consumes.setWaiters (s : State) (l : Fin 8) (tags : List Word) : Consumes s (s.setLine l { s.line l with waiters := tags }) := by
  refine ⟨fun k => ?_, fun hs => hs.setLine rfl rfl⟩
  rw [line_setLine]
  split
  · subst k; rfl
  · rfl

theorem settings_lineCleared {x : Line} (h : s.lineCleared t l x) (hx : settings x = settings (s.line l)) (k : Fin 8) :
    settings (t.line k) = settings (s.line k) := by
  obtain ⟨-, hl, hothers⟩ := h
  by_cases hk : k = l
  · rw [hk, hl, ← hx]
    split <;> rfl
  · rw [hothers k hk]; rfl

/-- A line but for its stamp. -/
def unstamped (x : Line) : Line := { x with stamp := none }

theorem settings_lowerCount (s : State) (l : Fin 8) (n : Nat) (k : Fin 8) :
    settings ((s.lowerCount l n).line k) = settings (s.line k) := by
  by_cases hz : n = 0
  · have hc := lineCleared_lowerCount s l (x := s.line l) rfl
    rw [setLine_line] at hc
    rw [hz]
    exact settings_lineCleared hc rfl k
  · rw [lowerCount_of_pos s l hz, line_setLine]
    split
    · subst k; rfl
    · rfl

/-- The events of one line are a matter of the others' stamps alone. -/
theorem unstamped_lowerCount (s : State) {k l : Fin 8} (hk : k ≠ l) (n : Nat) :
    unstamped ((s.lowerCount l n).line k) = unstamped (s.line k) := by
  by_cases hz : n = 0
  · obtain ⟨-, -, hothers⟩ := lineCleared_lowerCount s l (x := s.line l) rfl
    rw [setLine_line] at hothers
    rw [hz, hothers k hk]
    rfl
  · rw [lowerCount_of_pos s l hz, line_setLine_ne s _ hk]

theorem lowerCount_consumes {n : Nat} (hn : n < (s.line l).count) : Consumes s (s.lowerCount l n) :=
  ⟨settings_lowerCount s l n, fun hs => hs.lowerCount fun _ => ⟨(Nat.le_of_lt hn).trans (hs.count l), by omega⟩⟩

theorem deliver_consumes (tag : Word) (rest : List Word) (hc : 0 < (s.line l).count) : Consumes s (s.deliver l tag rest) := by
  have hset := Consumes.setWaiters s l rest
  have hlower : Consumes _ ((s.setLine l { s.line l with waiters := rest }).lowerCount l ((s.line l).count - 1)) :=
    lowerCount_consumes (by rw [line_setLine_self]; exact Nat.sub_lt hc Nat.one_pos)
  exact (hset.trans hlower).trans (.of_atn (wakeWaiter_frame ..).2.2.1)

theorem routeUpTo_consumes (l : Fin 8) (n : Nat) (s : State) : Consumes s (State.routeUpTo l n s) := by
  induction n generalizing s with
  | zero => exact .refl s
  | succ n ih =>
    unfold State.routeUpTo
    split
    · exact .refl s
    · split
      · exact (deliver_consumes _ _ ‹_›).trans (ih _)
      · exact .refl s

theorem route_consumes (s : State) (l : Fin 8) : Consumes s (s.route l) := routeUpTo_consumes l _ s

theorem register_consumes (s : State) (l : Fin 8) (tag : Word) : Consumes s (s.register l tag) :=
  (Consumes.setWaiters s l _).trans (route_consumes _ l)

theorem dropWake_consumes (s : State) (r : Record) : Consumes s (s.dropWake r) := by
  unfold State.dropWake
  split
  · exact .setWaiters s _ _
  · exact .refl s
  · exact .refl s

theorem settleUpTo_consumes (starts : Bool) (w : Fin 6) (n : Nat) (s : State) {b : Boundary}
    (hnf : ∀ reason detail, b ≠ .failed reason detail) : Consumes s (State.settleUpTo starts w n b s) := by
  induction n using Nat.strong_induction_on generalizing s b with
  | _ n ih =>
  cases hr : s.head w with
  | none => rw [settleUpTo_of_empty starts hr]; exact .refl s
  | some r =>
  have h := settleUpTo_settles starts hr n hnf
  generalize State.settleUpTo starts w n b s = t at h
  cases h with
  | done | cancelled | park | go | lineOff => exact .of_atn (by simp)
  | wait l => exact (register_consumes s l r.tag).trans (.of_atn (by simp))
  | stop l => exact register_consumes s l r.tag
  | again l k hk => exact (register_consumes s l r.tag).trans (ih k (by omega) _ (by simp))

theorem flushWindow_consumes (s : State) (w : Fin 6) : Consumes s (s.flushWindow w) := by
  have hatn : ∀ t : State, (flushed t w).atn = t.atn := fun t => by
    unfold flushed
    dsimp only
    split <;> simp
  rcases flushWindow_eq s w with e | ⟨r, e⟩ <;> rw [e]
  · exact .of_atn (hatn s)
  · exact (dropWake_consumes s r).trans (.of_atn (hatn _))

end

end Sys2Proof.Attention
end

section
namespace Sys2Proof.Attention

open Sys2Proof Sys2Proof.Machine Sys2Proof.Records Sys2Proof.Operations

/-! ## Heads that wait on a line (R132, R133) -/

/-- The line on which the record's wake condition waits. -/
def onLine (r : Record) : Option (Fin 8) :=
  match r.wake with
  | some (.attention l _) => some l
  | some (.timer _) | none => none

/-- The head of window `w`, where it waits on a line. -/
def waiter (s : State) (w : Fin 6) : Option Record := (s.head w).filter fun r => (onLine r).isSome

/-- Tags stand on a list once, each that of a head that waits on its line, and every such head's tag stands there. No list of a line in
mode OFF has one. -/
structure Listed (s : State) : Prop where
  nodup : ∀ l, (s.line l).waiters.Nodup
  mode : ∀ l, (s.line l).waiters ≠ [] → (s.line l).mode ≠ .off
  listed : ∀ l, ∀ tag ∈ (s.line l).waiters, ∃ w r, waiter s w = some r ∧ r.tag = tag ∧ onLine r = some l
  stands : ∀ w r l, waiter s w = some r → onLine r = some l → r.tag ∈ (s.line l).waiters ∧ r.waitsOn l = true

/-- No line with waiters holds events. -/
def Calm (s : State) : Prop := ∀ l, (s.line l).waiters ≠ [] → (s.line l).count = 0

/-- What `State.waitersRegistered` says, where tags are distinct. -/
structure Registered (s : State) : Prop extends Listed s where
  calm : Calm s

section
variable {s t : State} {l : Fin 8} {w : Fin 6} {r : Record}

theorem waiter_eq_some_iff : waiter s w = some r ↔ s.head w = some r ∧ ∃ l, onLine r = some l := by
  rw [waiter, Option.filter_eq_some_iff, Option.isSome_iff_exists]

theorem onLine_eq_some_iff : onLine r = some l ↔ ∃ d, r.wake = some (.attention l d) := by
  unfold onLine
  split <;> simp [*]

theorem onLine_of_no_wake (h : r.wake = none) : onLine r = none := by
  simp [onLine, h]

theorem waiter_of_head (h : s.head w = some r) (hl : onLine r = none) : waiter s w = none := by
  simp [waiter, h, hl]

theorem waiter_of_no_head (h : s.head w = none) : waiter s w = none := by
  simp [waiter, h]

/-- Records that are not PARKED wait on no line. -/
theorem onLine_of_not_parked (h : RecordSound r) (hst : r.state ≠ .parked) : onLine r = none :=
  onLine_of_no_wake (by simpa [hst] using h.2.1)

theorem waiter_of_sound (h : Sound s) (hr : ∀ r, s.head w = some r → r.state ≠ .parked) : waiter s w = none := by
  cases hh : s.head w with
  | none => exact waiter_of_no_head hh
  | some r => exact waiter_of_head hh (onLine_of_not_parked ((h.window w).of_head hh).1 (hr r hh))

theorem waiter_congr (h : t.window w = s.window w) : waiter t w = waiter s w := by
  rw [waiter, waiter, head_eq, head_eq, h]

theorem waitsOn_iff : r.waitsOn l = true ↔
    r.state = .parked ∧ (∃ timeout, r.op? = some (.waitAttention l timeout)) ∧ ∃ d, r.wake = some (.attention l d) := by
  unfold Record.waitsOn
  rw [Bool.and_eq_true, decide_eq_true_eq]
  refine and_congr_right fun _ => ?_
  split
  · rename_i k _ j _ ho hw
    simp [ho, hw]
  · rename_i h
    refine iff_of_false (by simp) ?_
    rintro ⟨⟨timeout, ho⟩, d, hw⟩
    exact h l timeout l d ho hw

theorem onLine_of_waitsOn (h : r.waitsOn l = true) : onLine r = some l := onLine_eq_some_iff.mpr (waitsOn_iff.mp h).2.2

/-- With distinct tags two heads of one tag are one head. -/
theorem head_unique (hd : s.tagsDistinct = true) {v : Fin 6} {q : Record} (hr : s.head w = some r) (hq : s.head v = some q)
    (htag : q.tag = r.tag) : v = w ∧ q = r :=
  Cancellation.eq_of_tag_eq hd (List.mem_of_head? hr) (List.mem_of_head? hq) htag

/-- At most one tag for each window. -/
theorem length_le_of_heads {tags : List Word} (hn : tags.Nodup) (hh : ∀ tag ∈ tags, ∃ w r, s.head w = some r ∧ r.tag = tag) :
    tags.length ≤ 6 := by
  have hsub : tags ⊆ allWindows.filterMap fun w => (s.head w).map Record.tag := fun tag htag => by
    obtain ⟨w, r, hr, rfl⟩ := hh tag htag
    exact List.mem_filterMap.mpr ⟨w, mem_allWindows w, by rw [hr]; rfl⟩
  exact (hn.subperm hsub).length_le.trans (List.length_filterMap_le ..)

theorem waitersOk_iff : s.waitersOk l = true ↔ (s.line l).waiters.Nodup ∧ (s.line l).waiters.length ≤ 6 ∧
    ((s.line l).waiters ≠ [] → (s.line l).count = 0 ∧ (s.line l).mode ≠ .off) ∧
    ∀ tag ∈ (s.line l).waiters, ∃ w r, s.head w = some r ∧ r.tag = tag ∧ r.waitsOn l = true := by
  simp only [State.waitersOk, Bool.and_eq_true, decide_eq_true_eq, List.all_eq_true, List.any_eq_true, Option.any_eq_true,
    mem_allWindows, true_and, and_assoc]

theorem waitersRegistered_iff (hd : s.tagsDistinct = true) : s.waitersRegistered = true ↔ Registered s := by
  have hheads : s.waitersRegistered = true ↔ (∀ l, s.waitersOk l = true) ∧
      ∀ w r l, s.head w = some r → onLine r = some l → r.tag ∈ (s.line l).waiters := by
    simp only [State.waitersRegistered, Bool.and_eq_true, List.all_eq_true, mem_allWindows, mem_allLines, true_imp_iff,
      Option.all_eq_true]
    refine and_congr_right fun _ => forall_congr' fun w => forall_congr' fun r => ?_
    unfold onLine
    split <;> simp [*]
  rw [hheads]
  simp only [waitersOk_iff]
  constructor
  · rintro ⟨hl, hstands⟩
    refine ⟨⟨fun l => (hl l).1, fun l h => ((hl l).2.2.1 h).2, fun l tag htag => ?_, fun w r l hr hon => ?_⟩, fun l h => ((hl l).2.2.1 h).1⟩
    · obtain ⟨w, r, hr, e, hw⟩ := (hl l).2.2.2 tag htag
      have hon := onLine_of_waitsOn hw
      exact ⟨w, r, waiter_eq_some_iff.mpr ⟨hr, l, hon⟩, e, hon⟩
    · have hr := (waiter_eq_some_iff.mp hr).1
      have hmem := hstands w r l hr hon
      obtain ⟨v, q, hq, e, hw⟩ := (hl l).2.2.2 r.tag hmem
      rw [(head_unique hd hr hq e).2] at hw
      exact ⟨hmem, hw⟩
  · intro h
    refine ⟨fun l => ⟨h.nodup l, length_le_of_heads (s := s) (h.nodup l) fun tag htag => ?_, fun hne => ⟨h.calm l hne, h.mode l hne⟩,
      fun tag htag => ?_⟩, fun w r l hr hon => (h.stands w r l (waiter_eq_some_iff.mpr ⟨hr, l, hon⟩) hon).1⟩
    all_goals obtain ⟨w, r, hw, e, hon⟩ := h.listed l tag htag
    · exact ⟨w, r, (waiter_eq_some_iff.mp hw).1, e⟩
    · exact ⟨w, r, (waiter_eq_some_iff.mp hw).1, e, (h.stands w r l hw hon).2⟩

/-! ### Where neither waiters nor lists change -/

/-- The part of a line that waiters depend on. -/
def roster (x : Line) : LineMode × List Word := (x.mode, x.waiters)

theorem Listed.congr (h : Listed s) (hw : ∀ w, waiter t w = waiter s w) (hl : ∀ l, roster (t.line l) = roster (s.line l)) : Listed t := by
  have hmode := fun l => congrArg Prod.fst (hl l)
  have hlist := fun l => congrArg Prod.snd (hl l)
  simp only [roster] at hmode hlist
  refine ⟨fun l => ?_, fun l => ?_, fun l => ?_, fun w r l => ?_⟩
  · rw [hlist]; exact h.nodup l
  · rw [hlist, hmode]; exact h.mode l
  · rw [hlist]; simpa only [hw] using h.listed l
  · rw [hw, hlist]; exact h.stands w r l

/-- The head of window `w` changes, and waits on no line before or after. -/
theorem waiters_of_head (hothers : ∀ v, v ≠ w → t.window v = s.window v) (hs : waiter s w = none) (ht : waiter t w = none) (v : Fin 6) :
    waiter t v = waiter s v := by
  by_cases hv : v = w
  · rw [hv, hs, ht]
  · exact waiter_congr (hothers v hv)

theorem waiters_of_win (h : t.win = s.win) (v : Fin 6) : waiter t v = waiter s v := waiter_congr (window_congr h v)

end

end Sys2Proof.Attention
end

section
namespace Sys2Proof.Attention

open Sys2Proof Sys2Proof.Machine Sys2Proof.Records Sys2Proof.Operations

/-! ## Delivery to a PARKED head (R38, R134) -/

section
variable {s t : State} {l : Fin 8} {w : Fin 6} {r : Record}

theorem mode_of_settings {x y : Line} (h : settings x = settings y) : x.mode = y.mode := by
  have := congrArg Line.mode h
  exact this

theorem count_of_unstamped {x y : Line} (h : unstamped x = unstamped y) : x.count = y.count := by
  have := congrArg Line.count h
  exact this

theorem roster_of_unstamped {x y : Line} (h : unstamped x = unstamped y) : roster x = roster y := by
  have := congrArg roster h
  exact this

/-- The head that waits on the line is found by its tag, where no other head has it. -/
theorem waiterWindow_of_parked (hr : s.head w = some r) (hst : r.state = .parked) (hon : onLine r = some l)
    (hone : ∀ v q, s.head v = some q → q.tag = r.tag → v = w) : s.waiterWindow l r.tag = some w := by
  obtain ⟨d, hwake⟩ := onLine_eq_some_iff.mp hon
  cases hw : s.waiterWindow l r.tag with
  | none =>
    have := List.find?_eq_none.mp hw w (mem_allWindows w)
    simp [hr, hst, hwake] at this
  | some v =>
    obtain ⟨q, hq, htag, -⟩ := waiterWindow_spec hw
    rw [hone v q hq htag]

/-- The PARKED head is given its event: it ends DONE with its last operation, and else is READY (R38). -/
theorem wakeWaiter_of_parked (hr : s.head w = some r) (hst : r.state = .parked) (hon : onLine r = some l)
    (hone : ∀ v q, s.head v = some q → q.tag = r.tag → v = w) : s.wakeWaiter l r.tag =
      if r.ops.length ≤ r.opIndex + 1 then s.retireHead w r.advance.endDone
      else s.setHead w { r.advance with state := .ready, wake := none } := by
  have hfinished : r.advance.finished = true ↔ r.ops.length ≤ r.opIndex + 1 := finished_iff r.advance
  simp only [State.wakeWaiter, waiterWindow_of_parked hr hst hon hone, hr, hst, hfinished]
  simp

theorem ordered_of_goes {p : Prop} (h : Goes p s t) (hp : p) (ho : Ordered s) : Ordered t :=
  ⟨h.sound hp, h.aborts hp ho.tags ho.aborts, h.tagsDistinct hp ho.tags⟩

/-- Behind a head that leaves its queue stands one that waits for nothing. -/
theorem waiter_of_retire (hs : Sound s) {r' : Record} (h : Retire s t w r r') : waiter t w = none := by
  cases hh : t.head w with
  | none => exact waiter_of_no_head hh
  | some q =>
    have hq : q ∈ (s.window w).queue.tail := by
      rw [← queue_eq, ← h.queue]; exact List.mem_of_head? hh
    obtain ⟨hrec, hst⟩ := (hs.window w).queued_tail q hq
    exact waiter_of_head hh (onLine_of_not_parked hrec (by simp [hst]))

/-- A waiting head leaves with its tag. -/
theorem Listed.leave (h : Listed s) (hd : s.tagsDistinct = true) (hr : waiter s w = some r) (hon : onLine r = some l)
    (hothers : ∀ v, v ≠ w → waiter t v = waiter s v) (hgone : waiter t w = none)
    (hlist : ∀ tag, tag ∈ (t.line l).waiters ↔ tag ∈ (s.line l).waiters ∧ tag ≠ r.tag) (hnodup : (t.line l).waiters.Nodup)
    (hmode : (t.line l).mode = (s.line l).mode) (hlines : ∀ k, k ≠ l → roster (t.line k) = roster (s.line k)) : Listed t := by
  have hrost : ∀ k, k ≠ l → (t.line k).mode = (s.line k).mode ∧ (t.line k).waiters = (s.line k).waiters := fun k hk =>
    Prod.mk.inj (hlines k hk)
  have hin : ∀ k, ∀ tag ∈ (t.line k).waiters, tag ∈ (s.line k).waiters := fun k tag htag => by
    by_cases hk : k = l
    · subst hk; exact ((hlist tag).mp htag).1
    · rwa [(hrost k hk).2] at htag
  refine ⟨fun k => ?_, fun k hne => ?_, fun k tag htag => ?_, fun v q k hq hk => ?_⟩
  · by_cases hk : k = l
    · subst hk; exact hnodup
    · rw [(hrost k hk).2]; exact h.nodup k
  · obtain ⟨tag, htag⟩ := List.exists_mem_of_ne_nil _ hne
    have hmode' : (t.line k).mode = (s.line k).mode := by
      by_cases hk : k = l
      · subst hk; exact hmode
      · exact (hrost k hk).1
    rw [hmode']
    exact h.mode k (List.ne_nil_of_mem (hin k tag htag))
  · obtain ⟨v, q, hq, e, hk⟩ := h.listed k tag (hin k tag htag)
    have hv : v ≠ w := by
      rintro rfl
      obtain rfl := Option.some.inj (hq.symm.trans hr)
      obtain rfl := Option.some.inj (hk.symm.trans hon)
      exact ((hlist tag).mp htag).2 e.symm
    exact ⟨v, q, (hothers v hv).trans hq, e, hk⟩
  · have hv : v ≠ w := by
      rintro rfl
      rw [hgone] at hq
      cases hq
    rw [hothers v hv] at hq
    obtain ⟨hmem, hw⟩ := h.stands v q k hq hk
    refine ⟨?_, hw⟩
    by_cases e : k = l
    · subst e
      refine (hlist _).mpr ⟨hmem, fun htag => hv ?_⟩
      exact (head_unique hd (waiter_eq_some_iff.mp hr).1 (waiter_eq_some_iff.mp hq).1 htag).1
    · rw [(hrost k e).2]; exact hmem

/-- A head that waits on a line is PARKED. -/
theorem Listed.parked (h : Listed s) (hr : waiter s w = some r) (hon : onLine r = some l) : r.state = .parked :=
  (waitsOn_iff.mp (h.stands w r l hr hon).2).1

/-- Each delivery takes the oldest tag off the list, and its head goes on or ends (R134). -/
theorem deliver_listed (ho : Ordered s) (h : Listed s) {tag : Word} {rest : List Word} (hw : (s.line l).waiters = tag :: rest) :
    Listed (s.deliver l tag rest) := by
  obtain ⟨w, r, hr, rfl, hon⟩ := h.listed l tag (by rw [hw]; exact List.mem_cons_self)
  have hhead := (waiter_eq_some_iff.mp hr).1
  have hnodup := h.nodup l
  rw [hw, List.nodup_cons] at hnodup
  set u := (s.setLine l { s.line l with waiters := rest }).lowerCount l ((s.line l).count - 1) with hu
  have hwin : u.win = s.win := by simp [hu]
  have huhead : u.head w = some r := by rw [head_eq, window_congr hwin]; exact hhead
  have hwoken : s.deliver l r.tag rest = u.wakeWaiter l r.tag := rfl
  rw [wakeWaiter_of_parked huhead (h.parked hr hon) hon fun v q hq htag =>
    (head_unique ho.tags hhead (by rwa [head_eq, window_congr hwin] at hq) htag).1] at hwoken
  have hsound : Sound u := (Moves.lines (p := Sound s) id hwin (by simp [hu]) (by simp [hu]) (by simp [hu]) (by simp [hu])
    (by simp [hu]) (by simp [hu])).sound ho.sound
  have hheads : (∀ v, v ≠ w → (s.deliver l r.tag rest).window v = u.window v) ∧ waiter (s.deliver l r.tag rest) w = none := by
    rw [hwoken]
    split
    · have hret := retireHead_retire huhead r.advance.endDone
      exact ⟨hret.others, waiter_of_retire hsound hret⟩
    · exact ⟨fun v hv => window_setHead_ne u _ hv, waiter_of_head (head_setHead huhead _) rfl⟩
  have hset : ∀ k, settings ((s.deliver l r.tag rest).line k) = settings (s.line k) := fun k => by
    rw [State.deliver, line_congr (wakeWaiter_frame ..).2.2.1, settings_lowerCount, (Consumes.setWaiters s l rest).settings]
  have hlist := waiters_deliver s l r.tag rest
  refine h.leave ho.tags hr hon (fun v hv => waiter_congr ((hheads.1 v hv).trans (window_congr hwin v))) hheads.2 (fun tag => ?_)
    (by rw [hlist]; exact hnodup.2) (mode_of_settings (hset l)) fun k hk => ?_
  · rw [hlist, hw, List.mem_cons]
    constructor
    · exact fun htag => ⟨.inr htag, fun e => hnodup.1 (e ▸ htag)⟩
    · exact fun ⟨htag, hne⟩ => htag.resolve_left hne
  · have hlower : unstamped ((s.deliver l r.tag rest).line k) = unstamped (s.line k) := by
      rw [State.deliver, line_congr (wakeWaiter_frame ..).2.2.1, unstamped_lowerCount _ hk, line_setLine_ne s _ hk]
    exact roster_of_unstamped hlower

/-- The routing of a line leaves the others but for their stamps. -/
theorem unstamped_routeUpTo {k : Fin 8} (hk : k ≠ l) (n : Nat) (s : State) :
    unstamped ((State.routeUpTo l n s).line k) = unstamped (s.line k) := by
  induction n generalizing s with
  | zero => rfl
  | succ n ih =>
    unfold State.routeUpTo
    split
    · rfl
    · split
      · rw [ih, State.deliver, line_congr (wakeWaiter_frame ..).2.2.1, unstamped_lowerCount _ hk, line_setLine_ne s _ hk]
      · rfl

/-- Routing goes on until no waiter or no event is left (R134). -/
theorem routeUpTo_ends (l : Fin 8) (n : Nat) (s : State) (hn : (s.line l).waiters.length ≤ n) :
    ((State.routeUpTo l n s).line l).waiters = [] ∨ ((State.routeUpTo l n s).line l).count = 0 := by
  induction n generalizing s with
  | zero => exact .inl (List.length_eq_zero_iff.mp (Nat.le_zero.mp hn))
  | succ n ih =>
    unfold State.routeUpTo
    split
    · exact .inl ‹_›
    · rename_i tag rest hw
      split
      · refine ih _ ?_
        rw [waiters_deliver]
        rw [hw] at hn
        exact Nat.le_of_succ_le_succ hn
      · exact .inr (by omega)

theorem route_ends (s : State) (l : Fin 8) : ((s.route l).line l).waiters = [] ∨ ((s.route l).line l).count = 0 :=
  routeUpTo_ends l _ s le_rfl

theorem routeUpTo_listed (l : Fin 8) (n : Nat) (ho : Ordered s) (h : Listed s) : Listed (State.routeUpTo l n s) := by
  induction n generalizing s with
  | zero => exact h
  | succ n ih =>
    unfold State.routeUpTo
    split
    · exact h
    · rename_i tag rest hw
      split
      · exact ih (ordered_of_goes (deliver_moves id l tag rest).toGoes ho.sound ho) (deliver_listed ho h hw)
      · exact h

/-- The routing of a line that has been given events calms it again. -/
theorem route_registered (ho : Ordered s) (h : Listed s) (hc : ∀ k, k ≠ l → (s.line k).waiters ≠ [] → (s.line k).count = 0) :
    Registered (s.route l) := by
  refine ⟨routeUpTo_listed l _ ho h, fun k hne => ?_⟩
  by_cases hk : k = l
  · subst hk
    exact (route_ends s k).resolve_left hne
  · have hsame : unstamped ((s.route l).line k) = unstamped (s.line k) := unstamped_routeUpTo hk _ s
    have hlist : ((s.route l).line k).waiters = (s.line k).waiters := congrArg Prod.snd (roster_of_unstamped hsame)
    rw [hlist] at hne
    rw [count_of_unstamped hsame]
    exact hc k hk hne

end

end Sys2Proof.Attention
end

section
namespace Sys2Proof.Attention

open Sys2Proof Sys2Proof.Machine Sys2Proof.Records Sys2Proof.Operations

/-! ## The settlement and the waiters (R37, R41) -/

/-- What the settlement of a head can do, where no WAIT ATTENTION takes it on. -/
inductive Departs (starts : Bool) (w : Fin 6) (s : State) (r : Record) : State → Prop
  | done : Departs starts w s r (s.retireHead w r.endDone)
  | cancelled (cause : CancelCause) : Departs starts w s r (s.retireHead w (r.endCancelled cause))
  | lineOff (l : Fin 8) : Departs starts w s r (s.failHead w r .lineOff l.val)
  | park (deadline : Nat) : Departs starts w s r (s.parkHead w r (.timer deadline))
  | go : Departs starts w s r (s.yieldOrGo starts w r)

section
variable {s t : State} {l : Fin 8} {w : Fin 6} {r : Record}

/-- A settlement takes its head on, or registers it with a line that is not OFF and goes on as the registration leaves it (R37). -/
theorem settleUpTo_departs (starts : Bool) (hr : s.head w = some r) (n : Nat) {b : Boundary}
    (hb : ∀ reason detail, b ≠ .failed reason detail) : Departs starts w s r (State.settleUpTo starts w n b s) ∨
      ∃ l timeout, r.op? = some (.waitAttention l timeout) ∧ (s.line l).mode ≠ .off ∧
        ((r.tag ∈ ((s.register l r.tag).line l).waiters ∧
            ∃ d, State.settleUpTo starts w n b s = (s.register l r.tag).parkHead w r (.attention l d)) ∨
          (r.tag ∉ ((s.register l r.tag).line l).waiters ∧
            (State.settleUpTo starts w n b s = s.register l r.tag ∨
              ∃ k, n = k + 1 ∧ State.settleUpTo starts w n b s = State.settleUpTo starts w k .ended (s.register l r.tag)))) := by
  generalize ht : State.settleUpTo starts w n b s = t
  unfold State.settleUpTo at ht
  simp only [hr] at ht
  split at ht
  · exact .inl (ht ▸ .done)
  split at ht
  · exact .inl (ht ▸ .cancelled _)
  split at ht
  · split at ht
    · exact .inl (ht ▸ .park _)
    · exact .inl (ht ▸ .go)
  · exact .inl (ht ▸ .park _)
  · rename_i l timeout hop
    split at ht
    · exact .inl (ht ▸ .lineOff _)
    rename_i hmode
    refine .inr ⟨l, timeout, hop, hmode, ?_⟩
    split at ht
    · exact .inl ⟨‹_›, _, ht.symm⟩
    · refine .inr ⟨‹_›, ?_⟩
      split at ht
      · exact .inl ht.symm
      · exact .inr ⟨_, rfl, ht.symm⟩
  · exact .inl (ht ▸ .go)

/-- A new record at the head of a window, and the grant ended or not, leave the other windows. -/
theorem window_leave (s : State) {v w : Fin 6} (hv : v ≠ w) (r' : Record) :
    ((s.setHead w r').dropGrant w).window v = s.window v :=
  (window_congr (dropGrant_frame ..).1 v).trans (window_setHead_ne s r' hv)

theorem head_leave (hr : s.head w = some r) (r' : Record) : ((s.setHead w r').dropGrant w).head w = some r' := by
  rw [head_eq, window_congr (s := s.setHead w r') (dropGrant_frame ..).1, ← head_eq, head_setHead hr]

/-- The RUNNING head waits on no line, before and after it has been taken on. -/
theorem waiter_departs {starts : Bool} (hs : Sound s) (hb : AtBoundary s w) (hr : s.head w = some r)
    (h : Departs starts w s r t) (v : Fin 6) : waiter t v = waiter s v := by
  have hrun := hb.running hs hr
  have hon : onLine r = none := onLine_of_not_parked ((hs.window w).of_head hr).1 (by simp [hrun])
  have hself := waiter_of_head hr hon
  have hretire : ∀ {t r'}, Retire s t w r r' → waiter t v = waiter s v := fun hret =>
    waiters_of_head hret.others hself (waiter_of_retire hs hret) v
  have hleave : ∀ r', onLine r' = none → waiter ((s.setHead w r').dropGrant w) v = waiter s v := fun r' h' =>
    waiters_of_head (fun v hv => window_leave s hv r') hself (waiter_of_head (head_leave hr r') h') v
  cases h with
  | done | cancelled => exact hretire (retireHead_retire hr _)
  | lineOff => exact hretire (failHead_retire hr ..)
  | park => exact hleave _ rfl
  | go =>
    unfold State.yieldOrGo
    dsimp only
    split
    · exact hleave _ hon
    · refine waiters_of_win ?_ v
      repeat' split
      all_goals simp

theorem atn_departs {starts : Bool} (h : Departs starts w s r t) : t.atn = s.atn := by
  cases h <;> simp

theorem Registered.congr (h : Registered s) (hw : ∀ w, waiter t w = waiter s w) (hatn : t.atn = s.atn) : Registered t :=
  ⟨h.toListed.congr hw fun l => by rw [line_congr hatn], fun l => by rw [line_congr hatn]; exact h.calm l⟩

/-- The RUNNING head parks on a line without events, behind the waiters that stand there. -/
theorem park_registered (hd : s.tagsDistinct = true) (h : Registered s) (hr : s.head w = some r) (hw : waiter s w = none)
    {timeout : Nat} (hop : r.op? = some (.waitAttention l timeout)) (hmode : (s.line l).mode ≠ .off) (hcount : (s.line l).count = 0)
    (d : Option Nat) :
    Registered ((s.setLine l { s.line l with waiters := (s.line l).waiters ++ [r.tag] }).parkHead w r (.attention l d)) := by
  set u := s.setLine l { s.line l with waiters := (s.line l).waiters ++ [r.tag] } with hu
  set p : Record := { r with state := .parked, wake := some (.attention l d) } with hp
  have hline : ∀ k, (u.parkHead w r (.attention l d)).line k =
      if k = l then { s.line l with waiters := (s.line l).waiters ++ [r.tag] } else s.line k := fun k => by
    rw [line_congr (parkHead_frame ..).2.2.1, hu, line_setLine]
  have hself : waiter (u.parkHead w r (.attention l d)) w = some p :=
    waiter_eq_some_iff.mpr ⟨head_leave (s := u) hr p, l, rfl⟩
  have hothers : ∀ v, v ≠ w → waiter (u.parkHead w r (.attention l d)) v = waiter s v := fun v hv =>
    waiter_congr (window_leave u hv p)
  have hnew : r.tag ∉ (s.line l).waiters := fun hmem => by
    obtain ⟨v, q, hq, htag, -⟩ := h.listed l r.tag hmem
    obtain ⟨rfl, -⟩ := head_unique hd hr (waiter_eq_some_iff.mp hq).1 htag
    rw [hw] at hq
    cases hq
  refine ⟨⟨fun k => ?_, fun k => ?_, fun k tag htag => ?_, fun v q k hq hk => ?_⟩, fun k => ?_⟩
  · rw [hline]
    split
    · exact List.nodup_append.mpr ⟨h.nodup l, List.nodup_singleton _,
      by simpa using fun tag htag (e : tag = r.tag) => hnew (e ▸ htag)⟩
    · exact h.nodup k
  · rw [hline]
    split
    · exact fun _ => hmode
    · exact h.mode k
  · have hold : tag ∈ (s.line k).waiters → ∃ v q, waiter (u.parkHead w r (.attention l d)) v = some q ∧ q.tag = tag ∧ onLine q = some k :=
      fun hmem => by
        obtain ⟨v, q, hq, e, hk⟩ := h.listed k tag hmem
        have hv : v ≠ w := by
          rintro rfl
          rw [hw] at hq
          cases hq
        exact ⟨v, q, (hothers v hv).trans hq, e, hk⟩
    rw [hline] at htag
    split at htag
    · subst k
      rcases List.mem_append.mp htag with hmem | hmem
      · exact hold hmem
      · exact ⟨w, p, hself, (List.mem_singleton.mp hmem).symm, rfl⟩
    · exact hold htag
  · rw [hline]
    by_cases hv : v = w
    · subst hv
      obtain rfl := Option.some.inj (hself.symm.trans hq)
      obtain rfl : l = k := Option.some.inj hk
      exact ⟨by simp [hp], waitsOn_iff.mpr ⟨rfl, ⟨timeout, hop⟩, d, rfl⟩⟩
    · rw [hothers v hv] at hq
      obtain ⟨hmem, hwaits⟩ := h.stands v q k hq hk
      refine ⟨?_, hwaits⟩
      split
      · subst k; exact List.mem_append_left _ hmem
      · exact hmem
  · rw [hline]
    split
    · exact fun _ => hcount
    · exact h.calm k

/-- A RUNNING head that takes an event of a line at once goes on, and no waiter moves (R37). -/
theorem registered_of_event (h : Registered s) (hr : RunsAlone s w r) (hw : waiter s w = none) (hc : 1 ≤ (s.line l).count)
    (hrun : onLine r = none) : Registered (s.register l r.tag) ∧ r.tag ∉ ((s.register l r.tag).line l).waiters := by
  have hempty : (s.line l).waiters = [] := by
    by_contra hne
    have := h.calm l hne
    omega
  have hset := hr.register_of_event hc hempty
  have hatn : ∀ k, (s.register l r.tag).line k = (s.lowerCount l ((s.line l).count - 1)).line k := fun k => by
    rw [hset, line_congr (setHead_frame ..).2.2.2.1]
  have hlist : ((s.register l r.tag).line l).waiters = [] := by rw [hatn, waiters_lowerCount, hempty]
  have hother : ∀ k, k ≠ l → unstamped ((s.register l r.tag).line k) = unstamped (s.line k) := fun k hk => by
    rw [hatn, unstamped_lowerCount s hk]
  have hwin : (s.lowerCount l ((s.line l).count - 1)).win = s.win := (lowerCount_frame ..).1
  have hhead : (s.lowerCount l ((s.line l).count - 1)).head w = some r := by rw [head_eq, window_congr hwin]; exact hr.head
  refine ⟨⟨h.toListed.congr (fun v => ?_) fun k => ?_, fun k hne => ?_⟩, by rw [hlist]; exact List.not_mem_nil⟩
  · rw [hset]
    refine waiters_of_head (w := w) (fun v hv => ?_) hw (waiter_of_head (head_setHead hhead r.advance) hrun) v
    rw [window_setHead_ne _ _ hv, window_congr hwin]
  · by_cases hk : k = l
    · subst hk
      refine Prod.ext ?_ (hlist.trans hempty.symm)
      rw [hatn]
      exact mode_of_settings (settings_lowerCount s k _ k)
    · exact roster_of_unstamped (hother k hk)
  · by_cases hk : k = l
    · subst hk; exact absurd hlist hne
    · have hsame := hother k hk
      have hlist' : ((s.register l r.tag).line k).waiters = (s.line k).waiters := congrArg Prod.snd (roster_of_unstamped hsame)
      rw [hlist'] at hne
      rw [count_of_unstamped hsame]
      exact h.calm k hne

theorem settleUpTo_registered (starts : Bool) (n : Nat) (ho : Ordered s) (h : Registered s) (hb : AtBoundary s w) {b : Boundary}
    (hnf : ∀ reason detail, b ≠ .failed reason detail) : Registered (State.settleUpTo starts w n b s) := by
  induction n using Nat.strong_induction_on generalizing s b with
  | _ n ih =>
  cases hr : s.head w with
  | none => rw [settleUpTo_of_empty starts hr]; exact h
  | some r =>
  have hrun := hb.running ho.sound hr
  have hon : onLine r = none := onLine_of_not_parked ((ho.sound.window w).of_head hr).1 (by simp [hrun])
  have hw := waiter_of_head hr hon
  rcases settleUpTo_departs starts hr n hnf with hd | ⟨l, timeout, hop, hmode, hcases⟩
  · exact h.congr (waiter_departs ho.sound hb hr hd) (atn_departs hd)
  have hset : Ordered (s.register l r.tag) := ordered_of_goes (register_moves id l r.tag).toGoes ho.sound ho
  by_cases hc : (s.line l).count = 0
  · have hreg := register_of_no_event hc r.tag
    rcases hcases with ⟨-, d, e⟩ | ⟨hout, -⟩
    · rw [e, hreg]
      exact park_registered ho.tags h hr hw hop hmode hc d
    · simp [hreg] at hout
  · obtain ⟨hregistered, hout⟩ := registered_of_event h (runsAlone_of_tagsDistinct hr hrun ho.tags) hw (Nat.one_le_iff_ne_zero.mpr hc) hon
    rcases hcases with ⟨hin, -⟩ | ⟨-, e | ⟨k, hk, e⟩⟩
    · exact absurd hin hout
    · rw [e]; exact hregistered
    · rw [e]
      exact ih k (by omega) hset hregistered (register_atBoundary ho.sound hb hr l r.tag).1 (by simp)

end

end Sys2Proof.Attention
end

section
namespace Sys2Proof.Attention

open Sys2Proof Sys2Proof.Machine Sys2Proof.Records Sys2Proof.Operations

/-! ## Operations that keep the settings of lines -/

/-- From `s` to `t` no line's settings have changed; stamps stay in ranks, and heads and waiter lists agree as before. -/
structure Runs (s t : State) : Prop where
  consumes : Consumes s t
  ordered : Ordered s → Ordered t
  registered : Ordered s → Registered s → Registered t

section
variable {s t u : State} {w : Fin 6} {r r' : Record}

theorem Runs.trans (h : Runs s t) (k : Runs t u) : Runs s u :=
  ⟨h.consumes.trans k.consumes, fun ho => k.ordered (h.ordered ho), fun ho hr => k.registered (h.ordered ho) (h.registered ho hr)⟩

/-- Where no line changes it is the waiting heads that count. -/
theorem Runs.still (hg : Goes (Ordered s) s t) (hatn : t.atn = s.atn)
    (hw : Ordered s → Registered s → ∀ v, waiter t v = waiter s v) : Runs s t :=
  ⟨.of_atn hatn, fun ho => ordered_of_goes hg ho ho, fun ho h => h.congr (hw ho h) hatn⟩

theorem ordered_of_holds (h : holds t = holds s) (ho : Ordered s) : Ordered t := by
  simp only [holds, Prod.mk.injEq] at h
  obtain ⟨hwin, -, hgrant, haccess, hbacklog⟩ := h
  have hw := window_congr hwin
  have hq : t.queue = s.queue := funext fun w => by rw [queue_eq, hw, queue_eq]
  refine ⟨⟨fun w => ?_, ?_, by rw [hbacklog]; exact ho.sound.backlog⟩, fun w => by rw [hq]; exact ho.aborts w, ?_⟩
  · rw [hw, hgrant]; exact ho.sound.window w
  · rw [haccess, hgrant]; exact ho.sound.access
  · have hlive : t.live = s.live := by simp only [State.live, State.busSide, hq, hbacklog]
    rw [tagsDistinct_iff, hlive, ← tagsDistinct_iff]
    exact ho.tags

/-- Neither records nor lines have moved. -/
theorem Runs.frame (h : holds t = holds s) (hatn : t.atn = s.atn) : Runs s t := by
  refine ⟨.of_atn hatn, ordered_of_holds h, fun _ hr => hr.congr (waiters_of_win ?_) hatn⟩
  simp only [holds, Prod.mk.injEq] at h
  exact h.1

theorem Runs.refl (s : State) : Runs s s := .frame rfl rfl

theorem onLine_congr (h : r'.wake = r.wake) : onLine r' = onLine r := by
  rw [onLine, h, onLine]

/-- A head that waits on no line has become another that waits on none. -/
theorem Runs.rehead (h : Rehead s t w r r') (hg : Goes (Ordered s) s t) (hatn : t.atn = s.atn)
    (hon : Ordered s → Registered s → onLine r = none ∧ onLine r' = none) : Runs s t := by
  refine .still hg hatn fun ho hreg => ?_
  obtain ⟨hr, hr'⟩ := hon ho hreg
  have hhead : t.head w = some r' := by rw [head_eq, h.window]; rfl
  refine waiters_of_head (fun v hv => ?_) (waiter_of_head h.head hr) (waiter_of_head hhead hr')
  rw [window_congr h.win, window_setHead_ne s r' hv]

/-- A head that waits on no line has left its queue. -/
theorem Runs.retire (h : Retire s t w r r') (hg : Goes (Ordered s) s t) (hatn : t.atn = s.atn)
    (hon : Ordered s → Registered s → onLine r = none) : Runs s t :=
  .still hg hatn fun ho hreg => waiters_of_head h.others (waiter_of_head h.head (hon ho hreg)) (waiter_of_retire ho.sound h)

/-- The head of the granted window is RUNNING, and waits on no line. -/
theorem onLine_of_granted (hs : Sound s) (hg : s.sch.grant = some w) (hr : s.head w = some r) : onLine r = none := by
  have hrun := (hs.granted_iff hr).mp hg
  exact onLine_of_not_parked ((hs.window w).of_head hr).1 (by simp [hrun])

/-- A head that waits on a line stands at a WAIT ATTENTION. -/
theorem onLine_of_other_op (h : Registered s) (hr : s.head w = some r) (hop : ∀ l timeout, r.op? ≠ some (.waitAttention l timeout)) :
    onLine r = none := by
  cases hon : onLine r with
  | none => rfl
  | some l =>
    obtain ⟨-, ⟨timeout, e⟩, -⟩ := waitsOn_iff.mp (h.stands w r l (waiter_eq_some_iff.mpr ⟨hr, l, hon⟩) hon).2
    exact absurd e (hop l timeout)

theorem reach_runs (s : State) (n : Nat) : Runs s (s.reach n) := .frame rfl rfl

/-! ## The Bus Engine -/

theorem settleUpTo_runs (starts : Bool) (n : Nat) (hb : Ordered s → AtBoundary s w) {b : Boundary}
    (hnf : ∀ reason detail, b ≠ .failed reason detail) : Runs s (State.settleUpTo starts w n b s) :=
  ⟨settleUpTo_consumes starts w n s hnf,
    fun ho => ordered_of_goes (settleUpTo_moves Ordered.sound hb starts n hnf).toGoes ho ho,
    fun ho h => settleUpTo_registered starts n ho h (hb ho) hnf⟩

theorem releaseAt_runs (s : State) (w : Fin 6) : Runs s (s.releaseAt w) := by
  unfold State.releaseAt
  split
  · exact .frame rfl rfl
  · exact .refl s

theorem settle_runs (starts : Bool) (hb : Ordered s → AtBoundary s w) {b : Boundary}
    (hnf : ∀ reason detail, b ≠ .failed reason detail) : Runs s (s.settle starts w b) :=
  (settleUpTo_runs starts _ hb hnf).trans (releaseAt_runs _ w)

theorem settleWaiting_runs (s : State) : Runs s s.settleWaiting := by
  unfold State.settleWaiting
  split
  · split
    · exact settle_runs true (fun _ => ⟨(running_spec ‹_›).1, ‹_›⟩) (by simp)
    · exact .refl s
  · exact .refl s

theorem answerRequest_runs (s : State) : Runs s s.answerRequest := by
  unfold State.answerRequest
  split
  · split
    · exact settleWaiting_runs s
    · split
      · exact .frame rfl rfl
      · exact .refl s
  · exact .refl s

theorem answerHold_runs (s : State) : Runs s s.answerHold := by
  unfold State.answerHold
  split
  · exact .refl s
  · exact .frame rfl rfl

/-- Where the lines keep their settings whether or not the discipline holds, the rest is shown where it does. -/
theorem Runs.of_ordered (hc : Consumes s t) (h : Ordered s → Runs s t) : Runs s t :=
  ⟨hc, fun ho => (h ho).ordered ho, fun ho => (h ho).registered ho⟩

/-- The settlement of a head whose operation may have failed. -/
theorem settle_consumes (starts : Bool) (b : Boundary) (hr : s.head w = some r) : Consumes s (s.settle starts w b) := by
  by_cases hf : ∃ reason detail, b = .failed reason detail
  · obtain ⟨reason, detail, rfl⟩ := hf
    rw [settle_of_failed hr]
    exact .of_atn (by simp)
  · exact (settleUpTo_consumes starts w _ s fun reason detail e => hf ⟨reason, detail, e⟩).trans (releaseAt_runs _ w).consumes

theorem failHead_runs (hb : Ordered s → AtBoundary s w) (hr : s.head w = some r) (reason : FailReason) (detail : Nat) :
    Runs s (s.failHead w r reason detail) :=
  .retire (failHead_retire hr ..) (Moves.failHead Ordered.sound hb hr reason detail).toGoes (by simp)
    fun ho _ => onLine_of_granted ho.sound (hb ho).1 hr

theorem settle_runs_of_any (starts : Bool) (hb : Ordered s → AtBoundary s w) (hr : s.head w = some r) (b : Boundary) :
    Runs s (s.settle starts w b) := by
  by_cases hf : ∃ reason detail, b = .failed reason detail
  · obtain ⟨reason, detail, rfl⟩ := hf
    rw [settle_of_failed hr]
    exact (failHead_runs hb hr reason detail).trans (releaseAt_runs _ w)
  · exact settle_runs starts hb fun reason detail e => hf ⟨reason, detail, e⟩

/-- The access is over, whether or not its operation has failed, and its head is settled. -/
theorem endAccess_runs {a : Access} (ha : s.bus.access = some a) (hr : s.head a.window = some r) (hl : Alike r r') (k i : Nat)
    (b : Boundary) : Runs s (s.endAccess a.window k i r' b) := by
  have hre := endedAccess_rehead (a := a) hr hl k i
  have hended : Runs s (endedAccess s a.window k i r') := by
    refine .rehead hre (hre.goes Ordered.sound fun ho => soundRehead_of_access ho.sound ha hr hl (by simp [endedAccess])
      (by simp [endedAccess])) (by simp [endedAccess]) fun ho _ => ?_
    have hon := onLine_of_granted ho.sound (ho.sound.access a ha) hr
    exact ⟨hon, (onLine_congr hl.2.2.2.2.1).trans hon⟩
  have hhead : (endedAccess s a.window k i r').head a.window = some r' := by rw [head_eq, hre.window]; rfl
  rw [endAccess_eq]
  refine .of_ordered ((hended.consumes.trans (settle_consumes true b hhead)).trans (answerHold_runs _).consumes) fun ho => ?_
  exact (hended.trans (settle_runs_of_any true (fun _ => endedAccess_atBoundary ho.sound ha k i r') hhead b)).trans (answerHold_runs _)

theorem beginModifyWrite_runs {a : Access} (ha : s.bus.access = some a) (hr : s.head a.window = some r) {addr k o : Word} {ret : Bool}
    (hop : r.op? = some (.modify addr k o ret)) (hk : a.kind = .read) (width : Width) (hw : width = (s.window a.window).profile.width)
    (v value : Word) : Runs s (s.beginModifyWrite a (if ret then r.append (unitBytes width v) else r) value) := by
  have hl : Alike r (if ret then r.append (unitBytes width v) else r) := by split <;> exact ⟨rfl, rfl, rfl, rfl, rfl, rfl⟩
  refine .rehead (unit_rehead hr hl ⟨rfl, rfl, rfl⟩) (beginModifyWrite_moves Ordered.sound ha hr hop hk width hw v value).toGoes
    (by simp) fun ho _ => ?_
  have hon := onLine_of_granted ho.sound (ho.sound.access a ha) hr
  exact ⟨hon, (onLine_congr hl.2.2.2.2.1).trans hon⟩

theorem dropAccess_runs {a : Access} (ha : s.bus.access = some a) (hn : ∀ r, s.head a.window = some r → r.op? = none) :
    Runs s { s with bus.access := none } :=
  .still (dropAccess_moves Ordered.sound ha hn).toGoes rfl fun _ _ => waiters_of_win rfl

theorem takeUnit_runs {a : Access} (ha : s.bus.access = some a) (v : Word) : Runs s (s.takeUnit a v) := by
  unfold State.takeUnit
  dsimp only
  split
  · rename_i hr
    exact dropAccess_runs ha fun r h => by rw [hr] at h; cases h
  rename_i r hr
  split
  · rename_i hop
    exact dropAccess_runs ha fun q h => by rw [← Option.some.inj (hr.symm.trans h)]; exact hop
  · exact beginModifyWrite_runs ha hr ‹_› ‹_› _ rfl v _
  · exact endAccess_runs ha hr (alike_accessed ..) _ _ _

theorem completePin_runs {a : Access} (ha : s.bus.access = some a) (strobe : Nat) (data : Word) : Runs s (s.completePin a strobe data) := by
  unfold State.completePin
  dsimp only
  refine Runs.trans ?_ (takeUnit_runs ?_ _)
  · exact .frame rfl rfl
  · exact ha

theorem completeScratch_runs {a : Access} (ha : s.bus.access = some a) : Runs s (s.completeScratch a) := by
  unfold State.completeScratch
  dsimp only
  split
  · exact (reach_runs s _).trans (takeUnit_runs (s := s.reach _) ha _)
  · refine Runs.trans ?_ (takeUnit_runs ?_ _)
    · exact .frame rfl rfl
    · exact ha

theorem failTimedOut_runs {a : Access} (ha : s.bus.access = some a) : Runs s (failTimedOut s a) := by
  unfold failTimedOut
  split
  · rename_i hr
    exact dropAccess_runs ha fun r h => by rw [hr] at h; cases h
  rename_i r hr
  split
  · rename_i hop
    exact dropAccess_runs ha fun q h => by rw [← Option.some.inj (hr.symm.trans h)]; exact hop
  · exact endAccess_runs ha hr ⟨rfl, rfl, rfl, rfl, rfl, rfl⟩ _ _ _

/-- Before the access fails, the timeout has moved neither records nor lines. -/
theorem timeoutPin_still (s : State) (a : Access) : ∃ t, holds t = holds s ∧ t.atn = s.atn ∧ s.timeoutPin a = failTimedOut t a := by
  refine ⟨_, ?_, ?_, rfl⟩ <;> cases a.kind <;> rfl

theorem timeoutPin_runs {a : Access} (ha : s.bus.access = some a) : Runs s (s.timeoutPin a) := by
  obtain ⟨t, ht, hatn, e⟩ := timeoutPin_still s a
  rw [e]
  refine (Runs.frame ht hatn).trans (failTimedOut_runs ?_)
  simp only [holds, Prod.mk.injEq] at ht
  rw [ht.2.2.2.1]
  exact ha

/-! ## The Scheduler -/

theorem grantTo_runs (hg : s.sch.grant = none)
    (hcand : ∀ r, s.head w = some r → r.state = .ready ∨ (r.state = .queued ∧ (s.window w).state = .enabled)) (starts : Bool) :
    Runs s (s.grantTo starts w) := by
  unfold State.grantTo
  split
  · exact .refl s
  rename_i r hr
  set t : State := { s with sch.grant := some w, sch.pointer := w, sch.slice := 0, bus.prevUnit := none } with ht
  obtain ⟨hm, hb⟩ := granted_moves (p := Ordered s) (t := t) Ordered.sound hr hg (hcand r hr) ⟨rfl, rfl, rfl, rfl, rfl⟩ rfl rfl
  have hhead : (t.setHead w { r with state := .running }).head w = some { r with state := .running } := head_setHead (s := t) hr _
  have hgrant : Runs s (t.setHead w { r with state := .running }) := by
    refine .still hm.toGoes (by simp [ht]) fun ho _ => ?_
    have hon : onLine r = none := onLine_of_not_parked ((ho.sound.window w).of_head hr).1 (by
      rcases hcand r hr with h | ⟨h, -⟩ <;> simp [h])
    exact waiters_of_head (fun v hv => window_setHead_ne t _ hv) (waiter_of_head hr hon) (waiter_of_head hhead ((onLine_congr rfl).trans hon))
  refine .of_ordered (hgrant.consumes.trans (settle_consumes starts .unit hhead)) fun ho => ?_
  exact hgrant.trans (settle_runs starts (fun _ => hb ho) (by simp))

theorem makeChoice_runs (s : State) (starts : Bool) : Runs s (s.makeChoice starts) := by
  unfold State.makeChoice
  split
  · rename_i hi
    have hg : s.sch.grant = none := by
      simp only [Bool.and_eq_true, State.engineIdle, decide_eq_true_eq] at hi
      exact hi.1
    split
    · rename_i w hw
      exact (reach_runs s (s.spacedFrom w)).trans (grantTo_runs (s := s.reach _) hg (fun r hr => choice_spec hw hr) starts)
    · exact .refl s
  · exact .refl s

theorem endRecovery_runs (s : State) (w : Fin 6) : Runs s (s.endRecovery w) :=
  .still (endRecovery_moves Ordered.sound w).toGoes (by simp) fun _ _ => waiters_of_win (by simp)

theorem parkTimer_op {op : Op} {d : Nat} (h : s.parkTimer w = some (r, op, d)) : r.op? = some op := by
  unfold State.parkTimer at h
  split at h
  · cases h
  · split at h
    · split at h
      · obtain ⟨rfl, e⟩ := Prod.mk.inj (Option.some.inj h)
        obtain ⟨rfl, -⟩ := Prod.mk.inj e
        assumption
      · obtain ⟨rfl, e⟩ := Prod.mk.inj (Option.some.inj h)
        obtain ⟨rfl, -⟩ := Prod.mk.inj e
        assumption
      · cases h
    · cases h

theorem expirePoll_runs (s : State) (w : Fin 6) : Runs s (s.expirePoll w) := by
  unfold State.expirePoll
  split
  · rename_i h
    obtain ⟨hr, hst⟩ := parkTimer_spec h
    refine (reach_runs s _).trans (.rehead (s := s.reach _) ⟨hr, rfl, by simp, by simp, rfl⟩
      (Moves.ready (s := s.reach _) Ordered.sound hr hst (.inl rfl)).toGoes (by simp) fun _ hreg => ⟨?_, rfl⟩)
    exact onLine_of_other_op hreg hr (by simp [parkTimer_op h])
  · exact .refl s

theorem expireDelay_runs (s : State) (w : Fin 6) : Runs s (s.expireDelay w) := by
  unfold State.expireDelay
  split
  · rename_i r _ d h
    have hend : Runs s ((s.reach d).endDelay w d) := .frame rfl rfl
    obtain ⟨hr, hst⟩ : ((s.reach d).endDelay w d).head w = some r ∧ r.state = .parked := parkTimer_spec h
    have hon := fun hreg : Registered ((s.reach d).endDelay w d) => onLine_of_other_op hreg hr (by simp [parkTimer_op h])
    dsimp only
    split
    · exact hend.trans (.retire (retireHead_retire hr _) (Moves.doneParked Ordered.sound hr hst).toGoes (by simp)
        fun _ hreg => hon hreg)
    · exact hend.trans (.rehead ⟨hr, rfl, by simp, by simp, rfl⟩ (Moves.ready Ordered.sound hr hst (.inr rfl)).toGoes (by simp)
        fun _ hreg => ⟨hon hreg, rfl⟩)
  · exact .refl s

end

end Sys2Proof.Attention
end

section
namespace Sys2Proof.Attention

open Sys2Proof Sys2Proof.Machine Sys2Proof.Records Sys2Proof.Operations

/-! ## Waiters that leave for another reason than their event (R39, R110, R113) -/

section
variable {s t : State} {w : Fin 6} {r : Record} {l : Fin 8}

theorem dropWake_of_off_line (h : onLine r = none) : s.dropWake r = s := by
  unfold onLine at h
  unfold State.dropWake
  split
  · rename_i e
    simp [e] at h
  all_goals rfl

theorem dropWake_of_on_line (h : onLine r = some l) :
    s.dropWake r = s.setLine l { s.line l with waiters := (s.line l).waiters.filter (· ≠ r.tag) } := by
  obtain ⟨d, e⟩ := onLine_eq_some_iff.mp h
  simp [State.dropWake, e, State.removeWaiter]

/-- The head of window `w` goes, or stays with nothing to wait for, and its wake condition is removed. -/
theorem registered_of_dropWake (ho : Ordered s) (h : Registered s) (hr : s.head w = some r) (hatn : t.atn = (s.dropWake r).atn)
    (hothers : ∀ v, v ≠ w → t.window v = s.window v) (hgone : waiter t w = none) : Registered t := by
  cases hon : onLine r with
  | none =>
    rw [dropWake_of_off_line hon] at hatn
    exact h.congr (waiters_of_head hothers (waiter_of_head hr hon) hgone) hatn
  | some l =>
    rw [dropWake_of_on_line hon] at hatn
    have hline : ∀ k, t.line k = if k = l then { s.line l with waiters := (s.line l).waiters.filter (· ≠ r.tag) } else s.line k :=
      fun k => by rw [line_congr hatn, line_setLine]
    have hself : t.line l = { s.line l with waiters := (s.line l).waiters.filter (· ≠ r.tag) } := by rw [hline, if_pos rfl]
    have hother : ∀ k, k ≠ l → t.line k = s.line k := fun k hk => by rw [hline, if_neg hk]
    refine ⟨h.leave ho.tags (waiter_eq_some_iff.mpr ⟨hr, l, hon⟩) hon (fun v hv => waiter_congr (hothers v hv)) hgone (fun tag => ?_)
      ?_ (by rw [hself]) fun k hk => by rw [hother k hk], fun k hne => ?_⟩
    · rw [hself]; simp
    · rw [hself]; exact (h.nodup l).filter _
    · by_cases hk : k = l
      · subst hk
        rw [hself] at hne ⊢
        obtain ⟨tag, htag⟩ := List.exists_mem_of_ne_nil _ hne
        exact h.calm k (List.ne_nil_of_mem (List.mem_of_mem_filter htag))
      · rw [hother k hk] at hne ⊢
        exact h.calm k hne

theorem expireWait_runs (s : State) (w : Fin 6) : Runs s (s.expireWait w) := by
  have hm := (expireWait_moves (s := s) Ordered.sound w).toGoes
  unfold State.expireWait at hm ⊢
  split
  · rename_i r _ timeout d h
    rw [h] at hm
    obtain ⟨hr, hst⟩ := parkTimer_spec h
    have hwin : ∀ v, ((s.reach d).dropWake r).window v = s.window v := window_congr (by simp)
    have hret := failHead_retire (s := (s.reach d).dropWake r) (w := w) (r := r) (by rw [head_eq, hwin]; exact hr) r .waitTimeout timeout
    refine ⟨((reach_runs s d).consumes.trans (dropWake_consumes _ r)).trans (.of_atn (by simp)),
      fun ho => ordered_of_goes hm ho ho, fun ho hreg => ?_⟩
    have hs : Sound ((s.reach d).dropWake r) := (dropWake_moves id r).sound ((reach_runs s d).ordered ho).sound
    exact registered_of_dropWake (s := s.reach d) ((reach_runs s d).ordered ho) ((reach_runs s d).registered ho hreg) hr (by simp)
      (fun v hv => (hret.others v hv).trans (hwin v)) (waiter_of_retire hs hret)
  · exact .refl s

/-! ### FLUSH -/

theorem flushWindow_of_empty (h : s.queue w = []) : s.flushWindow w = flushed s w := by
  simp [State.flushWindow, flushed, h]

theorem flushWindow_of_head (hr : s.head w = some r) : s.flushWindow w = flushed (s.dropWake r) w := by
  have hq := queue_of_head hr
  have hd : (s.dropWake r).queue w = s.queue w := by simp [State.queue, State.window]
  unfold State.flushWindow flushed
  rw [hd]
  rw [hq]
  simp

theorem window_flushed (s : State) (v w : Fin 6) : (flushed s w).window v =
    if v = w then { s.window w with queue := flushKept (s.queue w) s.bus.access.isSome } else s.window v := by
  rw [← window_setQueue]
  unfold flushed
  dsimp only
  split <;> exact window_congr (by simp) v

@[simp] theorem atn_flushed (s : State) (w : Fin 6) : (flushed s w).atn = s.atn := by
  unfold flushed
  dsimp only
  split <;> simp

/-- What a FLUSH leaves at the head of its window waits on no line. -/
theorem waiter_flushed (hs : Sound s) (w : Fin 6) : waiter (flushed s w) w = none := by
  have hq : (flushed s w).queue w = flushKept (s.queue w) s.bus.access.isSome := by rw [queue_eq, window_flushed, if_pos rfl]
  rcases flush_cases (s.queue w) s.bus.access.isSome with ⟨hk, -, -⟩ | ⟨r, rest, c, hr, hst, hk, -⟩
  · exact waiter_of_no_head (by rw [State.head, hq, hk]; rfl)
  · have hhead : s.head w = some r := by rw [State.head, hr]; rfl
    have hon : onLine r = none := onLine_of_not_parked ((hs.window w).of_head hhead).1 (by simp [hst])
    refine waiter_of_head (r := { r with abort := some c }) ?_ ((onLine_congr rfl).trans hon)
    rw [State.head, hq, hk]
    rfl

theorem flushWindow_runs (s : State) (w : Fin 6) : Runs s (s.flushWindow w) := by
  refine ⟨flushWindow_consumes s w, fun ho => ordered_of_goes (flushWindow_moves Ordered.sound w).toGoes ho ho, fun ho hreg => ?_⟩
  cases hr : s.head w with
  | none =>
    have hq : s.queue w = [] := List.head?_eq_none_iff.mp hr
    rw [flushWindow_of_empty hq]
    exact hreg.congr (waiters_of_head (fun v hv => by rw [window_flushed, if_neg hv]) (waiter_of_no_head hr) (waiter_flushed ho.sound w))
      (by simp)
  | some r =>
    rw [flushWindow_of_head hr]
    have hwin : ∀ v, (s.dropWake r).window v = s.window v := window_congr (by simp)
    have hs : Sound (s.dropWake r) := (dropWake_moves (p := Ordered s) Ordered.sound r).sound ho
    exact registered_of_dropWake ho hreg hr (by simp) (fun v hv => by rw [window_flushed, if_neg hv, hwin]) (waiter_flushed hs w)

theorem waiter_of_faulted (hs : Sound s) (hf : (s.window w).state = .faulted) : waiter s w = none :=
  waiter_of_sound hs fun r hr => by simp [((hs.window w).of_head hr).2.2.2 hf]

theorem clearWindow_runs (hf : (s.window w).state = .faulted) (discard : Bool) : Runs s (s.clearWindow w discard) := by
  refine .still (clearWindow_moves Ordered.sound hf discard).toGoes (by cases discard <;> rfl) fun ho _ =>
    waiters_of_head (w := w) (fun v hv => ?_) (waiter_of_faulted ho.sound hf) ?_
  · cases discard <;> exact window_setWindow_ne s _ hv
  · cases discard with
    | true => exact waiter_of_no_head (by rw [head_eq]; exact congrArg (fun x => x.queue.head?) (window_setWindow_self s w _))
    | false =>
      have hw := waiter_of_faulted ho.sound hf
      rw [waiter, head_eq] at hw ⊢
      rw [State.clearWindow, if_neg (by simp), window_setWindow_self]
      exact hw

/-! ### CANCEL -/

theorem waiter_congr_head {v : Fin 6} (h : t.head v = s.head v) : waiter t v = waiter s v := by
  rw [waiter, waiter, h]

theorem queue_cancelNow (s : State) (v w : Fin 6) (r : Record) (cause : CancelCause) : (s.cancelNow w r cause).window v =
    if v = w then { s.window w with queue := without (s.queue w) r.tag } else s.window v := by
  have hd : ∀ u, (s.dropWake r).window u = s.window u := window_congr (by simp)
  simp only [State.cancelNow]
  rw [window_congr (t := State.joinBacklog _ _) (joinBacklog_frame ..).1, window_setQueue, hd, hd, queue_eq, hd]
  rfl

theorem cancelNow_runs (hr : FirstOf (s.queue w) r) (hst : r.state ≠ .running) (cause : CancelCause) : Runs s (s.cancelNow w r cause) := by
  have hatn : (s.cancelNow w r cause).atn = (s.dropWake r).atn := by simp [State.cancelNow]
  have hothers : ∀ v, v ≠ w → (s.cancelNow w r cause).window v = s.window v := fun v hv => by rw [queue_cancelNow, if_neg hv]
  have hq : (s.cancelNow w r cause).queue w = without (s.queue w) r.tag := by rw [queue_eq, queue_cancelNow, if_pos rfl]
  refine ⟨(dropWake_consumes s r).trans (.of_atn hatn), fun ho => ordered_of_goes (cancelNow_moves Ordered.sound hr hst cause).toGoes ho ho,
    fun ho hreg => ?_⟩
  have hs := (cancelNow_moves (p := Ordered s) Ordered.sound hr hst cause).sound ho
  have hqueued := (ho.sound.window w).queued_tail
  rw [← queue_eq] at hqueued
  rcases without_cases hr with ⟨rest, e, e'⟩ | ⟨x, rest, e, e'⟩
  · rw [e] at hqueued
    refine registered_of_dropWake ho hreg (by rw [State.head, e]; rfl) hatn hothers (waiter_of_sound hs fun y hy => ?_)
    rw [State.head, hq, e'] at hy
    simp [(hqueued y (mem_of_mem_without (List.mem_of_head? hy))).2]
  · have hx : x ≠ r := by
      rintro rfl
      have hmem : x ∈ without (s.queue w) x.tag := by rw [e']; exact List.mem_cons_self
      simp [without] at hmem
    have hmem : r ∈ rest := by
      have hm := hr.mem
      rw [e] at hm
      exact (List.mem_cons.mp hm).resolve_left (Ne.symm hx)
    rw [e] at hqueued
    have hon : onLine r = none := onLine_of_not_parked (hqueued r hmem).1 (by simp [(hqueued r hmem).2])
    rw [dropWake_of_off_line hon] at hatn
    refine hreg.congr (fun v => waiter_congr_head ?_) hatn
    by_cases hv : v = w
    · rw [hv, State.head, hq, e', State.head, e]; rfl
    · rw [head_eq, hothers v hv, head_eq]

/-- The queue with an abort request on the record of a tag. -/
theorem markAbort_goes (hr : r ∈ s.queue w) (hst : r.state = .running) (cause : CancelCause) :
    Goes (Ordered s) s (s.setQueue w ((s.queue w).map (markAbort r.tag cause))) := by
  have hwin : (s.setQueue w ((s.queue w).map (markAbort r.tag cause))).window w =
      { s.window w with queue := (s.queue w).map (markAbort r.tag cause) } := by rw [window_setQueue, if_pos rfl]
  have hmap : ∀ {α : Type} (f : Record → α), (∀ x, f (markAbort r.tag cause x) = f x) →
      ((s.queue w).map (markAbort r.tag cause)).map f = (s.queue w).map f := fun f hf => by simp [hf]
  have hstep : Step s (s.setQueue w ((s.queue w).map (markAbort r.tag cause))) w [] :=
    ⟨fun v hv => by rw [window_setQueue, if_neg hv], by rw [hwin], by simp, by simp,
      by rw [queue_setQueue_self, hmap _ fun x => (markAbort_alike ..).2.1], by simp⟩
  refine hstep.goes Ordered.sound fun ho => ⟨?_, ?_, by simp, by simpa using ho.sound.access, by simp, fun hd ha => ?_⟩
  · rw [queue_setQueue_self, List.append_nil, hmap _ fun x => (markAbort_alike ..).1]
  · rw [hwin]; exact (ho.sound.window w).markAbort r.tag cause
  · rw [queue_setQueue_self]
    refine List.forall_mem_map.mpr fun x hx => ?_
    rw [(markAbort_alike ..).2.2.1]
    by_cases e : x.tag = r.tag
    · obtain rfl : x = r := List.inj_on_of_nodup_map (tags_queue_nodup hd w) hx hr e
      exact fun _ => hst
    · rw [show markAbort r.tag cause x = x from if_neg e]
      exact ha w x hx

/-- The head of a queue with a RUNNING record is that record. -/
theorem onLine_of_mem_running (hs : Sound s) (hr : r ∈ s.queue w) (hst : r.state = .running) {x : Record} (hx : s.head w = some x) :
    onLine x = none := by
  have hqueued := (hs.window w).queued_tail
  rw [← queue_eq] at hqueued
  rw [queue_of_head hx] at hr
  rcases List.mem_cons.mp hr with rfl | hmem
  · exact onLine_of_not_parked ((hs.window w).of_head hx).1 (by simp [hst])
  · have := (hqueued r hmem).2
    rw [hst] at this
    cases this

theorem requestAbort_runs (hr : r ∈ s.queue w) (hst : r.state = .running) (cause : CancelCause) : Runs s (s.requestAbort w r cause) := by
  refine Runs.trans ?_ (settleWaiting_runs _)
  refine .still (markAbort_goes hr hst cause) (by simp) fun ho _ =>
    waiters_of_head (w := w) (fun v hv => by rw [window_setQueue, if_neg hv]) ?_ ?_
  all_goals
    obtain ⟨x, hx⟩ : ∃ x, s.head w = some x := ⟨_, List.head?_eq_some_head (List.ne_nil_of_mem hr)⟩
    have hon := onLine_of_mem_running ho.sound hr hst hx
  · exact waiter_of_head hx hon
  · refine waiter_of_head (r := markAbort r.tag cause x) ?_ ((onLine_congr (markAbort_alike ..).2.2.2.2.1).trans hon)
    rw [State.head, queue_setQueue_self, List.head?_map, ← State.head, hx]
    rfl

theorem cancelFound_runs (hr : FirstOf (s.queue w) r) : Runs s (s.cancelFound w r) := by
  unfold State.cancelFound
  split
  · rename_i hst
    split
    · exact requestAbort_runs hr.mem hst _
    · exact .refl s
  all_goals
    rename_i hst
    exact cancelNow_runs hr (by simp [hst]) _

end

end Sys2Proof.Attention
end

section
namespace Sys2Proof.Attention

open Sys2Proof Sys2Proof.Machine Sys2Proof.Records Sys2Proof.Operations

/-! ## Timers, bus sharing and the link -/

section
variable {s t : State}

theorem finishPin_runs (s : State) (data : Word) (rdy : List Bool) : Runs s (s.finishPin data rdy) := by
  unfold State.finishPin
  split
  · exact .refl s
  · split
    · exact .refl s
    · exact completePin_runs (pinAccess_spec ‹_›) _ data

theorem finishTimeout_runs (s : State) : Runs s s.finishTimeout := by
  unfold State.finishTimeout
  split
  · exact .refl s
  · split
    · exact timeoutPin_runs (pinAccess_spec ‹_›)
    · exact .refl s

theorem finishScratch_runs (s : State) : Runs s s.finishScratch := by
  unfold State.finishScratch
  split
  · exact .refl s
  · exact completeScratch_runs (scratchAccess_spec ‹_›)

theorem endRelease_runs (s : State) : Runs s s.endRelease := .frame rfl rfl

theorem request_runs (s : State) : Runs s s.request :=
  Runs.trans (t := { s with breq := true }) (.frame rfl rfl) (answerRequest_runs _)

theorem withdrawRequest_runs (s : State) : Runs s s.withdrawRequest := by
  unfold State.withdrawRequest
  dsimp only
  split <;> exact .frame rfl rfl

theorem assertBgnt_runs (s : State) : Runs s s.assertBgnt := by
  unfold State.assertBgnt
  split
  · exact .refl s
  · split
    · exact .frame rfl rfl
    · exact .refl s

theorem overrunRelease_runs (s : State) : Runs s s.overrunRelease := by
  have hraise : ∀ u : State, holds u = holds s → u.atn = s.atn → ∀ limit window, Runs s (u.raiseOverrun limit window) := by
    intro u hu hatn limit window
    refine (Runs.frame hu hatn).trans ?_
    unfold State.raiseOverrun
    split <;> exact .frame rfl rfl
  unfold State.overrunRelease
  split
  · exact .refl s
  · split
    · exact .refl s
    · split
      · exact .refl s
      · refine hraise _ ?_ ?_ _ _ <;> rfl

/-- The Link Controller moves neither records nor lines. -/
theorem takeGap_runs (s : State) : Runs s s.takeGap := .frame (by simp [holds]) (by simp)
theorem requestAck_runs (s : State) : Runs s s.requestAck := .frame (by simp [holds]) (by simp)
theorem endFrame_runs (s : State) : Runs s s.endFrame := .frame (by simp [holds]) (by simp)
theorem expireAnnounce_runs (s : State) : Runs s s.expireAnnounce := .frame (by simp [holds]) (by simp)
theorem expireRetransmission_runs (s : State) : Runs s s.expireRetransmission := .frame (by simp [holds]) (by simp)
theorem receive_runs (s : State) (b : Byte) : Runs s { s with lnk := s.lnk.receive b s.now } := .frame rfl rfl
theorem startAnnouncing_runs (s : State) : Runs s s.startAnnouncing := .frame (by simp [holds]) (by simp)
theorem takeReport_runs (s : State) : Runs s s.takeReport :=
  .still (takeReport_moves Ordered.sound).toGoes (by simp) fun _ _ => waiters_of_win (by simp)

theorem takeFrame_runs (wanted : List Byte → Bool) {effect : State → List Byte → State} (he : ∀ t g, Runs t (effect t g)) :
    Runs s (s.takeFrame wanted effect) := by
  unfold State.takeFrame
  split
  · exact .refl s
  · split
    · exact Runs.trans (t := { s with lnk.gathered := none }) (.frame rfl rfl) (he _ _)
    · exact .refl s

theorem takeDamaged_runs (s : State) : Runs s s.takeDamaged := .frame (by simp [holds]) (by simp)
theorem takeData_runs (s : State) (g : List Byte) : Runs s (s.takeData g) := .frame (by simp [holds]) (by simp)
theorem takeAck_runs (s : State) (g : List Byte) : Runs s (s.takeAck g) := .frame (by simp [holds]) (by simp)
theorem takeNak_runs (s : State) (g : List Byte) : Runs s (s.takeNak g) := .frame (by simp [holds]) (by simp)
theorem takeResync_runs (s : State) : Runs s s.takeResync := .frame (by simp [holds]) (by simp)

theorem checkFrame_runs (s : State) : Runs s s.checkFrame := by
  refine takeFrame_runs _ fun t g => ?_
  split
  · exact takeDamaged_runs t
  split
  · exact takeData_runs t g
  split
  · exact takeAck_runs t g
  split
  · exact takeNak_runs t g
  split
  · exact takeResync_runs t
  · exact .refl t

end

/-! ## Changes of settings -/

/-- What every step keeps of stamps and waiters. -/
structure Keeps (s t : State) : Prop where
  ordered : Ordered s → Ordered t
  registered : Ordered s → Registered s → Registered t
  ranked : Ranked s → Ranked t

section
variable {s t u : State} {l : Fin 8} {x : Line}

theorem Runs.keeps (h : Runs s t) : Keeps s t := ⟨h.ordered, h.registered, h.consumes.ranked⟩

theorem Keeps.refl (s : State) : Keeps s s := (Runs.refl s).keeps

theorem Keeps.trans (h : Keeps s t) (k : Keeps t u) : Keeps s u :=
  ⟨fun ho => k.ordered (h.ordered ho), fun ho hr => k.registered (h.ordered ho) (h.registered ho hr), fun hr => k.ranked (h.ranked hr)⟩

/-- A line's level, filter, report or flags change. -/
theorem Keeps.setLine (hx : roster x = roster (s.line l)) (hcount : x.count = (s.line l).count) (hstamp : x.stamp = (s.line l).stamp) :
    Keeps s (s.setLine l x) := by
  have hline : ∀ k, roster ((s.setLine l x).line k) = roster (s.line k) ∧ ((s.setLine l x).line k).count = (s.line k).count := fun k => by
    rw [line_setLine]
    split
    · subst k; exact ⟨hx, hcount⟩
    · exact ⟨rfl, rfl⟩
  refine ⟨ordered_of_holds rfl, fun _ h => ⟨h.toListed.congr (waiters_of_win rfl) fun k => (hline k).1, fun k hne => ?_⟩,
    fun h => h.setLine hstamp hcount⟩
  rw [show ((s.setLine l x).line k).waiters = (s.line k).waiters from congrArg Prod.snd (hline k).1] at hne
  rw [(hline k).2]
  exact h.calm k hne

/-- A line without waiters has been set up anew, or its events reported. -/
theorem Keeps.lineCleared (hc : s.lineCleared t l x) (hw : (s.line l).waiters = []) (hx : x.waiters = []) : Keeps s t := by
  have hwin : t.win = s.win := by rw [hc.1]
  have hself : (t.line l).waiters = [] := by rw [hc.2.1]; split <;> exact hx
  have hother : ∀ k, k ≠ l → roster (t.line k) = roster (s.line k) ∧ (t.line k).count = (s.line k).count := fun k hk => by
    rw [hc.2.2 k hk]; exact ⟨rfl, rfl⟩
  have hlist : ∀ k, (t.line k).waiters = (s.line k).waiters := fun k => by
    by_cases hk : k = l
    · subst hk; rw [hself, hw]
    · exact congrArg Prod.snd (hother k hk).1
  have hne : ∀ {k}, (t.line k).waiters ≠ [] → k ≠ l := by
    rintro k hk rfl
    exact hk hself
  have hwaiter := waiters_of_win hwin
  refine ⟨ordered_of_holds (by rw [hc.1]; rfl), fun _ h => ⟨⟨fun k => ?_, fun k hk => ?_, fun k => ?_, fun w r k => ?_⟩, fun k hk => ?_⟩,
    fun h => h.lineCleared hc⟩
  · rw [hlist]; exact h.nodup k
  · rw [show (t.line k).mode = (s.line k).mode from congrArg Prod.fst (hother k (hne hk)).1]
    rw [hlist] at hk
    exact h.mode k hk
  · rw [hlist]; simpa only [hwaiter] using h.listed k
  · rw [hlist, hwaiter]; exact h.stands w r k
  · rw [(hother k (hne hk)).2]
    rw [hlist] at hk
    exact h.calm k hk

theorem sampleInput_keeps (s : State) (l : Fin 8) (level : Bool) : Keeps s (s.sampleInput l level) := by
  unfold State.sampleInput
  dsimp only
  split
  · exact .setLine rfl rfl rfl
  · split
    · exact .refl s
    · exact .setLine rfl rfl rfl

/-! ### A recognised change -/

theorem line_recordEvent_ne {k : Fin 8} (hk : k ≠ l) (s : State) : (s.recordEvent l).line k = s.line k := by
  unfold State.recordEvent State.giveStamp
  dsimp only
  repeat' split
  all_goals simp [line_setLine_ne, hk]

theorem roster_recordEvent (s : State) (l k : Fin 8) : roster ((s.recordEvent l).line k) = roster (s.line k) := by
  by_cases hk : k = l
  · subst hk
    unfold State.recordEvent State.giveStamp
    dsimp only
    repeat' split
    all_goals simp [roster]
  · rw [line_recordEvent_ne hk]

theorem recordEvent_or_self_of_rearm (s : State) (l : Fin 8) : s.rearm l = s ∨ s.rearm l = s.recordEvent l := by
  unfold State.rearm
  split
  · exact .inr rfl
  · exact .inl rfl

/-- The events that a recognised change records, before they are routed. -/
theorem recognise_eq (s : State) (l : Fin 8) (level : Bool) :
    s.recognise l level = (s.setLine l ((s.line l).recognise level)).route l ∨
      s.recognise l level = ((s.setLine l ((s.line l).recognise level)).recordEvent l).route l := by
  unfold State.recognise
  dsimp only
  split
  · exact .inr rfl
  · rcases recordEvent_or_self_of_rearm (s.setLine l ((s.line l).recognise level)) l with e | e <;> rw [e]
    · exact .inl rfl
    · exact .inr rfl

theorem recordEvent_ordered (ho : Ordered s) (l : Fin 8) : Ordered (s.recordEvent l) := ordered_of_holds (by simp [holds]) ho

theorem route_keeps (s : State) (l : Fin 8) : Keeps s (s.route l) :=
  ⟨fun ho => ordered_of_goes (route_moves Ordered.sound l).toGoes ho ho, fun ho h => route_registered ho h.toListed fun k _ => h.calm k,
    (route_consumes s l).ranked⟩

theorem recordEvent_route_keeps (s : State) (l : Fin 8) : Keeps s ((s.recordEvent l).route l) := by
  refine ⟨fun ho => (route_keeps _ l).ordered (recordEvent_ordered ho l), fun ho h => ?_,
    fun h => (route_consumes _ l).ranked (h.recordEvent l)⟩
  refine route_registered (recordEvent_ordered ho l) (h.toListed.congr (waiters_of_win (by simp)) (roster_recordEvent s l)) fun k hk => ?_
  rw [line_recordEvent_ne hk]
  exact h.calm k

theorem recognise_keeps (s : State) (l : Fin 8) (level : Bool) : Keeps s (s.recognise l level) := by
  have hset : Keeps s (s.setLine l ((s.line l).recognise level)) := .setLine rfl rfl rfl
  rcases recognise_eq s l level with e | e <;> rw [e]
  · exact hset.trans (route_keeps _ l)
  · exact hset.trans (recordEvent_route_keeps _ l)

theorem recogniseLine_keeps (s : State) (l : Fin 8) : Keeps s (s.recogniseLine l) := by
  unfold State.recogniseLine
  split
  · exact .refl s
  · exact (reach_runs s _).keeps.trans (recognise_keeps _ l _)

/-! ### Admissions -/

/-- The better of the line chosen so far and another. -/
def betterOf (better : Fin 8 → Fin 8 → Bool) (best : Option (Fin 8)) (l : Fin 8) : Option (Fin 8) :=
  match best with
  | none => some l
  | some b => if better l b then some l else some b

theorem pickLine_eq (passes : Fin 8 → Bool) (better : Fin 8 → Fin 8 → Bool) :
    pickLine passes better = (allLines.filter passes).foldl (betterOf better) none := rfl

theorem foldl_betterOf (better : Fin 8 → Fin 8 → Bool) (ls : List (Fin 8)) (b : Fin 8) :
    ∃ l ∈ b :: ls, ls.foldl (betterOf better) (some b) = some l := by
  induction ls generalizing b with
  | nil => exact ⟨b, List.mem_singleton_self b, rfl⟩
  | cons k ls ih =>
    have hnext : betterOf better (some b) k = some k ∨ betterOf better (some b) k = some b := by
      by_cases h : better k b <;> simp [betterOf, h]
    rcases hnext with e | e <;> rw [List.foldl_cons, e]
    · obtain ⟨l, hl, h⟩ := ih k
      exact ⟨l, List.mem_cons_of_mem _ hl, h⟩
    · obtain ⟨l, hl, h⟩ := ih b
      refine ⟨l, ?_, h⟩
      rcases List.mem_cons.mp hl with rfl | hl
      · exact List.mem_cons_self
      · exact List.mem_cons_of_mem _ (List.mem_cons_of_mem _ hl)

/-- A line is chosen that passes the test, or none does. -/
theorem pickLine_cases (passes : Fin 8 → Bool) (better : Fin 8 → Fin 8 → Bool) :
    (pickLine passes better = none ∧ ∀ l, passes l = false) ∨ ∃ l, pickLine passes better = some l ∧ passes l = true := by
  rw [pickLine_eq]
  cases h : allLines.filter passes with
  | nil => exact .inl ⟨rfl, fun l => by simpa using List.filter_eq_nil_iff.mp h l (mem_allLines l)⟩
  | cons b ls =>
    obtain ⟨l, hl, e⟩ := foldl_betterOf better ls b
    rw [← h] at hl
    exact .inr ⟨l, e, (List.mem_filter.mp hl).2⟩

theorem pickLine_passes {passes : Fin 8 → Bool} {better : Fin 8 → Fin 8 → Bool} {l : Fin 8} (h : pickLine passes better = some l) :
    passes l = true := by
  rcases pickLine_cases passes better with ⟨e, -⟩ | ⟨k, e, hk⟩
  · rw [e] at h; cases h
  · rw [e] at h; cases h; exact hk

theorem takeNotice_keeps (hw : (s.line l).waiters = []) : Keeps s (s.takeNotice l) :=
  .lineCleared (lineCleared_lowerCount s l (x := { s.line l with lost := false, outstanding := true }) rfl) hw hw

theorem admitAttention_keeps (s : State) : Keeps s s.admitAttention := by
  unfold State.admitAttention
  split
  · exact .refl s
  · rename_i l h
    have hel : (s.line l).eligible = true := pickLine_passes h
    have hw : (s.line l).waiters = [] := by
      simp only [Line.eligible, Bool.and_eq_true, decide_eq_true_eq] at hel
      exact hel.2
    have hpush : Runs s (s.pushReport ((s.line l).notice l)) := .frame rfl rfl
    refine hpush.keeps.trans (Keeps.trans (takeNotice_keeps (l := l) hw) (Runs.keeps ?_))
    exact .frame rfl rfl

theorem admitOne_keeps (s : State) : Keeps s s.admitOne := by
  unfold State.admitOne
  split
  · split
    · refine Runs.keeps (.still (admitReply_moves Ordered.sound).toGoes (by simp) fun _ _ => waiters_of_win (by simp))
    · refine Runs.keeps (.still (admitCompletion_moves Ordered.sound).toGoes (by simp) fun _ _ => waiters_of_win (by simp))
    · refine Runs.keeps (.still (admitOverrun_moves Ordered.sound).toGoes (by simp) fun _ _ => waiters_of_win (by simp))
    · exact admitAttention_keeps s
    · exact .refl s
  · exact .refl s

/-! ### Requests -/

theorem formReply_runs (s : State) (n : Word) (k : Byte) (c : ResultCode) (b : List Byte) : Runs s (s.formReply n k c b) := .frame rfl rfl

theorem accept_runs (s : State) (k : RequestKind) (body : List Byte) : Runs s (s.accept k body) := .frame rfl rfl

theorem refuse_runs (s : State) (k : RequestKind) (m : Message) (code : ResultCode) : Runs s (s.refuse k m code) := .frame rfl rfl

theorem refuseFormat_runs (s : State) (m : Message) : Runs s (s.refuseFormat m) := .frame rfl rfl

theorem pop_runs (s : State) (rest : List Message) : Runs s (s.pop rest) := .frame rfl rfl

theorem cancel_runs (s : State) (m : Message) : Runs s (s.cancel m) := by
  unfold State.cancel
  split
  · dsimp only
    split
    · exact refuse_runs ..
    · split
      · exact (cancelFound_runs (findBusSide_spec ‹_›).1).trans (accept_runs ..)
      · split <;> exact refuse_runs ..
  · exact refuseFormat_runs s m

theorem flush_runs (s : State) (m : Message) : Runs s (s.flush m) := by
  unfold State.flush
  split
  · split
    · exact refuse_runs ..
    · exact (flushWindow_runs s _).trans (accept_runs ..)
  · exact refuseFormat_runs s m

theorem clearFault_runs (s : State) (m : Message) : Runs s (s.clearFault m) := by
  unfold State.clearFault
  split
  · split
    · exact refuse_runs ..
    · split
      · exact refuse_runs ..
      · split
        · exact refuse_runs ..
        · exact (clearWindow_runs (not_not.mp ‹_›) _).trans (accept_runs ..)
  · exact refuseFormat_runs s m

theorem holdClear_runs (s : State) : Runs s s.holdClear := by
  unfold State.holdClear
  dsimp only
  split
  · exact Runs.trans (t := { s with sch.hold := true }) (.frame rfl rfl) ((settleWaiting_runs _).trans (formReply_runs ..))
  · exact .frame rfl rfl

theorem holdRequest_runs (s : State) (m : Message) : Runs s (s.holdRequest m) := by
  unfold State.holdRequest
  split
  · split
    · exact accept_runs ..
    · exact holdClear_runs s
  · exact refuseFormat_runs s m

theorem setSharing_runs (s : State) (m : Message) : Runs s (s.setSharing m) := by
  unfold State.setSharing
  split
  · split
    · exact refuse_runs ..
    · rename_i enable _
      split
      · exact Runs.trans (t := { s with bus.shareEnable := enable, bus.shareLimit := (wordAt m 2).toNat }) (.frame rfl rfl)
          ((answerRequest_runs _).trans (accept_runs ..))
      · exact refuse_runs ..
  · exact refuseFormat_runs s m

/-- The requests that change no more than a flag, a setting of the link, or its counters, and the queries. -/
theorem resumeRequest_runs (s : State) (m : Message) : Runs s (s.resumeRequest m) := by
  unfold State.resumeRequest
  repeat' split
  all_goals exact .frame rfl rfl

theorem setLink_runs (s : State) (m : Message) : Runs s (s.setLink m) := by
  unfold State.setLink
  repeat' split
  all_goals exact .frame rfl rfl

theorem queryDevice_runs (s : State) (m : Message) : Runs s (s.queryDevice m) := by
  unfold State.queryDevice
  split <;> exact .frame rfl rfl

theorem queryWindow_runs (s : State) (m : Message) : Runs s (s.queryWindow m) := by
  unfold State.queryWindow
  repeat' split
  all_goals exact .frame rfl rfl

theorem queryTransaction_runs (s : State) (m : Message) : Runs s (s.queryTransaction m) := by
  unfold State.queryTransaction
  repeat' split
  all_goals exact .frame rfl rfl

theorem queryAttention_runs (s : State) (m : Message) : Runs s (s.queryAttention m) := by
  unfold State.queryAttention
  split <;> exact .frame rfl rfl

theorem queryLink_runs (s : State) (m : Message) : Runs s (s.queryLink m) := by
  unfold State.queryLink
  repeat' split
  all_goals exact .frame rfl rfl

theorem setupLine_keeps (hw : (s.line l).waiters = []) (mode : LineMode) (priority filter : Nat) (report : Bool) :
    Keeps s (s.setupLine l mode priority filter report) :=
  .lineCleared (lineCleared_lowerCount s l rfl) hw hw

theorem setupAttention_keeps (s : State) (m : Message) : Keeps s (s.setupAttention m) := by
  unfold State.setupAttention
  split
  · split
    · exact (refuse_runs ..).keeps
    · split
      · split
        · exact (refuse_runs ..).keeps
        · rename_i hw
          exact (setupLine_keeps (not_not.mp hw) ..).trans (accept_runs ..).keeps
      · exact (refuse_runs ..).keeps
  · exact (refuseFormat_runs s m).keeps

theorem acknowledgeAttention_keeps (s : State) (m : Message) : Keeps s (s.acknowledgeAttention m) := by
  unfold State.acknowledgeAttention
  split
  · split
    · exact (refuse_runs ..).keeps
    · split
      · refine Keeps.trans (Keeps.setLine ?_ ?_ ?_) (accept_runs (s.setLine _ _) ..).keeps <;> rfl
      · exact (refuse_runs ..).keeps
  · exact (refuseFormat_runs s m).keeps

/-- A record that joins its queue takes no waiting head's place. -/
theorem acceptSubmit_keeps {m : Message} {x : Submission} (h : s.checkSubmit m = .ok x) : Keeps s (s.acceptSubmit x) := by
  refine ⟨submit_ordered (checkSubmit_admissible h), fun ho hreg => hreg.congr (fun v => ?_) rfl,
    fun hr => hr.congr fun l => ⟨rfl, rfl⟩⟩
  obtain ⟨front, back, hj⟩ := acceptSubmit_joins s x
  by_cases hv : v = x.window
  · subst hv
    rcases hj.head_cases ho.sound with ⟨-, hqueued, hq⟩ | ⟨y, rest, hs, ht⟩
    · rw [waiter_of_sound ho.sound fun r hr => by simp [hqueued r (List.mem_of_head? hr)]]
      exact waiter_of_head (r := s.newRecord x) (by rw [State.head, hq]; rfl) rfl
    · exact waiter_congr_head (by rw [State.head, ht, State.head, hs]; rfl)
  · exact waiter_congr (hj.others v hv)

theorem submit_keeps (s : State) (m : Message) : Keeps s (s.submit m) := by
  unfold State.submit
  split
  · split
    · exact (refuse_runs ..).keeps
    · exact acceptSubmit_keeps ‹_›
  · exact (refuseFormat_runs s m).keeps

theorem configure_keeps {w : Fin 6} (hq : s.queue w = []) (q : Profile) (enable : Bool) : Keeps s (s.configure w q enable) := by
  refine ⟨configure_ordered hq q enable, fun _ hreg => hreg.congr (fun v => waiter_congr_head ?_) rfl,
    fun hr => hr.congr fun l => ⟨rfl, rfl⟩⟩
  rw [State.head, configure_queue, State.head]

theorem configureWindow_keeps (s : State) (m : Message) : Keeps s (s.configureWindow m) := by
  unfold State.configureWindow
  split
  · split
    · exact (refuse_runs ..).keeps
    · split
      · split
        · exact (refuse_runs ..).keeps
        · split
          · exact (refuse_runs ..).keeps
          · exact (configure_keeps (not_not.mp ‹_›) _ _).trans (accept_runs ..).keeps
      · exact (refuse_runs ..).keeps
  · exact (refuseFormat_runs s m).keeps

theorem line_resetBlocks (s : State) (cause : ResetCause) (scratch : List Host.Cell) (data : Word) (holding : Bool) (l : Fin 8) :
    (s.resetBlocks cause scratch data holding).line l = Line.reset (s.line l).input := by
  simp [State.resetBlocks, State.line]

theorem resetBlocks_keeps (s : State) (cause : ResetCause) (scratch : List Host.Cell) (data : Word) (holding : Bool) :
    Keeps s (s.resetBlocks cause scratch data holding) := by
  have hw : ∀ w, waiter (s.resetBlocks cause scratch data holding) w = none := fun w =>
    waiter_of_no_head (by rw [State.head, reset_queue]; rfl)
  refine ⟨(Advance.reset s cause scratch data holding).ordered, fun _ _ => ⟨⟨fun l => ?_, fun l => ?_, fun l => ?_, fun w r l h => ?_⟩, fun l => ?_⟩,
    fun _ => ⟨fun l => ?_, fun l => ?_, fun k l n => ?_, fun l n => ?_⟩⟩
  case refine_4 => rw [hw] at h; cases h
  all_goals simp [line_resetBlocks, Line.reset]

theorem softReset_keeps (s : State) : Keeps s s.softReset := by
  unfold State.softReset
  split
  · exact resetBlocks_keeps ..
  · exact (resetBlocks_keeps ..).trans (startAnnouncing_runs _).keeps

theorem resetDevice_keeps (s : State) (m : Message) : Keeps s (s.resetDevice m) := by
  unfold State.resetDevice
  split
  · exact softReset_keeps s
  · exact (refuseFormat_runs s m).keeps

theorem carryOut_keeps (s : State) (m : Message) : Keeps s (s.carryOut m) := by
  unfold State.carryOut
  split
  · exact submit_keeps s m
  · exact (cancel_runs s m).keeps
  · exact (flush_runs s m).keeps
  · exact configureWindow_keeps s m
  · exact (clearFault_runs s m).keeps
  · exact setupAttention_keeps s m
  · exact acknowledgeAttention_keeps s m
  · exact (holdRequest_runs s m).keeps
  · exact (resumeRequest_runs s m).keeps
  · exact (setSharing_runs s m).keeps
  · exact (setLink_runs s m).keeps
  · exact resetDevice_keeps s m
  · exact (queryDevice_runs s m).keeps
  · exact (queryWindow_runs s m).keeps
  · exact (queryTransaction_runs s m).keeps
  · exact (queryAttention_runs s m).keeps
  · exact (queryLink_runs s m).keeps
  · exact (refuseFormat_runs s m).keeps

end

end Sys2Proof.Attention
end

section
namespace Sys2Proof.Attention

open Sys2Proof Sys2Proof.Machine Sys2Proof.Records Sys2Proof.Operations

/-! ## What every step keeps of the lines (O13, O15) -/

section
variable {s t : State}

theorem takeRequest_keeps (s : State) : Keeps s s.takeRequest := by
  unfold State.takeRequest
  split
  · exact .refl s
  · split
    · exact (pop_runs s _).keeps.trans (carryOut_keeps _ _)
    · exact .refl s

theorem takeKind_keeps (s : State) (k : Option RequestKind) {body : State → Message → State} (hb : ∀ t m, Keeps t (body t m)) :
    Keeps s (s.takeKind k body) := by
  unfold State.takeKind
  split
  · exact .refl s
  · split
    · exact (pop_runs s _).keeps.trans (hb _ _)
    · exact .refl s

theorem takeDue_keeps (s : State) (d : Due) : Keeps s (s.takeDue d) := by
  cases d with
  | frame => exact (checkFrame_runs s).keeps
  | request => exact takeRequest_keeps s
  | admission => exact admitOne_keeps s
  | report => exact (takeReport_runs s).keeps
  | change l => exact recogniseLine_keeps s l
  | release => exact (endRelease_runs s).keeps

theorem drainTo_keeps (moment : State → Nat) (n : Nat) (s : State) : Keeps s (State.drainTo moment n s) := by
  induction n generalizing s with
  | zero => exact .refl s
  | succ n ih =>
    unfold State.drainTo
    split
    · exact .refl s
    · exact (takeDue_keeps s _).trans (ih _)

theorem upToWithin_keeps (d : Due) (n : Nat) (s : State) : Keeps s (State.upToWithin d n s) := by
  induction n generalizing s with
  | zero => exact .refl s
  | succ n ih =>
    unfold State.upToWithin
    split
    · exact .refl s
    · split
      · exact .refl s
      · exact (takeDue_keeps s _).trans (ih _)

theorem event_keeps (s : State) {effect : State → State} (he : ∀ t, Keeps t (effect t)) : Keeps s (s.event effect) := by
  unfold State.event
  split
  · exact .refl s
  · exact (drainTo_keeps _ _ s).trans (he _)

theorem event_keeps_of_runs (s : State) {effect : State → State} (he : ∀ t, Runs t (effect t)) : Keeps s (s.event effect) :=
  event_keeps s fun t => (he t).keeps

theorem takeFrame_keeps (s : State) (wanted : List Byte → Bool) {effect : State → List Byte → State} (he : ∀ t g, Runs t (effect t g)) :
    Keeps s (s.takeFrame wanted effect) := (takeFrame_runs wanted he).keeps

theorem takeKind_keeps_of_runs (s : State) (k : Option RequestKind) {body : State → Message → State} (hb : ∀ t m, Runs t (body t m)) :
    Keeps s (s.takeKind k body) := takeKind_keeps s k fun t m => (hb t m).keeps

theorem scratchAccessCompletion_keeps (h : execScratchAccessCompletion s = .next t) : Keeps s t := by
  unfold execScratchAccessCompletion at h
  split at h
  · cases h; exact .refl s
  · dsimp only at h
    split at h
    · cases h
      exact (drainTo_keeps _ _ s).trans (finishScratch_runs _).keeps
    · cases h

/-- Leaving the holding state, every line takes its level, and nothing else of it changes but its pending change (R126). -/
theorem releaseReset_keeps (s : State) (baud : BitVec 2) (atn : BitVec 8) : Keeps s (s.releaseReset baud atn) := by
  unfold State.releaseReset
  split
  · refine Keeps.trans ?_ (startAnnouncing_runs _).keeps
    set t : State := { s with
      holding := false
      lnk.baud := baud
      atn := Vector.ofFn fun l : Fin 8 => { s.line l with level := atn.getLsbD l.val, pendingChange := none } } with ht
    have hline : ∀ l, t.line l = { s.line l with level := atn.getLsbD l.val, pendingChange := none } := fun l => by
      simp [ht, State.line]
    exact ⟨ordered_of_holds rfl, fun _ h => ⟨h.toListed.congr (waiters_of_win rfl) fun l => by rw [hline]; rfl,
      fun l hne => by rw [hline] at hne ⊢; exact h.calm l hne⟩, fun h => h.congr fun l => by rw [hline]; exact ⟨rfl, rfl⟩⟩
  · exact .refl s

theorem frame_keeps (h : holds t = holds s) (hatn : t.atn = s.atn) : Keeps s t := (Runs.frame h hatn).keeps

/-- Where a command goes on to a next state, that keeps stamps and waiters. -/
def KeepsOn (s : State) (o : Host.Outcome State Fault Refusal) : Prop := ∀ t, o = .next t → Keeps s t

theorem keepsOn_next (h : Keeps s t) : KeepsOn s (.next t) := by
  rintro _ e
  cases e; exact h

theorem exec_keeps (i : Instr) (s : State) : KeepsOn s (exec i s) := by
  cases i with
  | scratchAccessCompletion => exact fun t h => scratchAccessCompletion_keeps h
  | submit => exact keepsOn_next (takeKind_keeps s _ submit_keeps)
  | cancel => exact keepsOn_next (takeKind_keeps_of_runs s _ cancel_runs)
  | flush => exact keepsOn_next (takeKind_keeps_of_runs s _ flush_runs)
  | configureWindow => exact keepsOn_next (takeKind_keeps s _ configureWindow_keeps)
  | clearFault => exact keepsOn_next (takeKind_keeps_of_runs s _ clearFault_runs)
  | setupAttention => exact keepsOn_next (takeKind_keeps s _ setupAttention_keeps)
  | acknowledgeAttention => exact keepsOn_next (takeKind_keeps s _ acknowledgeAttention_keeps)
  | hold => exact keepsOn_next (takeKind_keeps_of_runs s _ holdRequest_runs)
  | resume => exact keepsOn_next (takeKind_keeps_of_runs s _ resumeRequest_runs)
  | setSharing => exact keepsOn_next (takeKind_keeps_of_runs s _ setSharing_runs)
  | setLink => exact keepsOn_next (takeKind_keeps_of_runs s _ setLink_runs)
  | resetDevice => exact keepsOn_next (takeKind_keeps s _ resetDevice_keeps)
  | queryDevice => exact keepsOn_next (takeKind_keeps_of_runs s _ queryDevice_runs)
  | queryWindow => exact keepsOn_next (takeKind_keeps_of_runs s _ queryWindow_runs)
  | queryTransaction => exact keepsOn_next (takeKind_keeps_of_runs s _ queryTransaction_runs)
  | queryAttention => exact keepsOn_next (takeKind_keeps_of_runs s _ queryAttention_runs)
  | queryLink => exact keepsOn_next (takeKind_keeps_of_runs s _ queryLink_runs)
  | unknownRequest => exact keepsOn_next (takeKind_keeps_of_runs s _ refuseFormat_runs)
  | dataFrame => exact keepsOn_next (takeFrame_keeps s _ takeData_runs)
  | ackFrame => exact keepsOn_next (takeFrame_keeps s _ takeAck_runs)
  | nakFrame => exact keepsOn_next (takeFrame_keeps s _ takeNak_runs)
  | resync => exact keepsOn_next (takeFrame_keeps s _ fun t _ => takeResync_runs t)
  | hostResyncReply => exact keepsOn_next (takeFrame_keeps s _ fun t _ => .refl t)
  | unknownControlFrame => exact keepsOn_next (takeFrame_keeps s _ fun t _ => .refl t)
  | crcError => exact keepsOn_next (takeFrame_keeps s _ fun t _ => takeDamaged_runs t)
  | gapError => exact keepsOn_next (event_keeps_of_runs s takeGap_runs)
  | ackRequested => exact keepsOn_next (event_keeps_of_runs s requestAck_runs)
  | frameTransmitEnd => exact keepsOn_next (event_keeps_of_runs s endFrame_runs)
  | retransmissionTimeout => exact keepsOn_next (event_keeps_of_runs s expireRetransmission_runs)
  | announceTimer => exact keepsOn_next (event_keeps_of_runs s expireAnnounce_runs)
  | reportTake => exact keepsOn_next ((upToWithin_keeps _ _ s).trans (takeReport_runs _).keeps)
  | reportAdmission => exact keepsOn_next ((upToWithin_keeps _ _ s).trans (admitOne_keeps _))
  | shareOverrunRaise => exact keepsOn_next (event_keeps_of_runs s overrunRelease_runs)
  | grant starts => exact keepsOn_next (event_keeps_of_runs s fun t => makeChoice_runs t starts)
  | recoveryEnd w => exact keepsOn_next (event_keeps_of_runs s fun t => endRecovery_runs t w)
  | accessCompletion data rdy => exact keepsOn_next (event_keeps_of_runs s fun t => finishPin_runs t data rdy)
  | readyTimeout => exact keepsOn_next (event_keeps_of_runs s finishTimeout_runs)
  | pollTimerExpiry w => exact keepsOn_next (event_keeps_of_runs s fun t => expirePoll_runs t w)
  | delayExpiry w => exact keepsOn_next (event_keeps_of_runs s fun t => expireDelay_runs t w)
  | waitTimeout w => exact keepsOn_next (event_keeps_of_runs s fun t => expireWait_runs t w)
  | attentionInputChange l level => exact keepsOn_next (event_keeps s fun t => sampleInput_keeps t l level)
  | changeRecognised l =>
    refine keepsOn_next ?_
    split
    · exact .refl s
    · exact (upToWithin_keeps _ _ s).trans (recogniseLine_keeps _ l)
  | breqAsserted =>
    refine keepsOn_next ?_
    split
    · exact frame_keeps rfl rfl
    · exact event_keeps_of_runs s request_runs
  | breqDeasserted =>
    refine keepsOn_next ?_
    split
    · exact frame_keeps rfl rfl
    · exact event_keeps_of_runs s withdrawRequest_runs
  | powerOnReset => exact keepsOn_next (resetBlocks_keeps ..)
  | pinReset => exact keepsOn_next (resetBlocks_keeps ..)
  | resetRelease baud atn => exact keepsOn_next (releaseReset_keeps s baud atn)
  | byteReceived b => exact keepsOn_next (event_keeps_of_runs s fun t => receive_runs t b)
  | bgntAssertion => exact keepsOn_next (event_keeps_of_runs s assertBgnt_runs)

theorem step_keeps (h : step s = .next t) : Keeps s t := by
  unfold step at h
  split at h
  · cases h
    exact (drainTo_keeps _ _ s).trans (reach_runs _ _).keeps
  · rename_i c rest _
    exact Keeps.trans (t := { s with pending := rest }) (frame_keeps rfl rfl) (exec_keeps c _ t h)

end

/-- Settles O13: the stamps are the ranks of the lines that hold events, which no operation of a line breaks. -/
theorem stampsStayRanked : Obligations.StampsStayRanked := by
  intro s t hs h
  rw [stampsRanked_iff] at hs ⊢
  exact (step_keeps h).ranked hs

/-- Settles O15: a head registers with a line where it parks, and every operation that takes it from there takes its tag with it. -/
theorem waitersStayRegistered : Obligations.WaitersStayRegistered := by
  intro s t hd hdis hs h
  have ho : Ordered s := (ordered_iff s).mpr ⟨hdis, hd⟩
  have hkeeps := step_keeps h
  rw [waitersRegistered_iff hd] at hs
  exact (waitersRegistered_iff (hkeeps.ordered ho).tags).mpr (hkeeps.registered ho hs)

end Sys2Proof.Attention
end

section
namespace Sys2Proof.Attention

open Sys2Proof Sys2Proof.Machine Sys2Proof.Records Sys2Proof.Operations

/-! ## Nothing is due -/

section
variable {s t : State} {l : Fin 8} {x y : Line}

theorem dueBy_eq_none_iff {n : Nat} : s.dueBy n = none ↔ s.lnk.gathered.isSome = false ∧ s.canTake = false ∧ s.canAdmit = false ∧
    s.canReport = false ∧ s.dueLine s.now = none ∧ s.releaseOver = false ∧ s.dueLine n = none := by
  unfold State.dueBy
  repeat' split
  all_goals simp_all

theorem dueLine_eq_none_iff {n : Nat} : s.dueLine n = none ↔ ∀ l, (s.line l).changeDue n = false := by
  unfold State.dueLine
  rcases pickLine_cases (fun l => (s.line l).changeDue n)
    (fun a b => decide ((s.line a).changeMoment < (s.line b).changeMoment)) with ⟨e, h⟩ | ⟨l, e, h⟩
  · exact iff_of_true e h
  · rw [e]
    exact iff_of_false (by simp) fun hall => by simp [hall l] at h

theorem changeDue_of_dueLine {n : Nat} (h : s.dueLine n = some l) : (s.line l).changeDue n = true := pickLine_passes h

/-- The one line whose change is due is the next. -/
theorem dueLine_of_only {n : Nat} (hl : (s.line l).changeDue n = true) (hothers : ∀ k, k ≠ l → (s.line k).changeDue n = false) :
    s.dueLine n = some l := by
  cases h : s.dueLine n with
  | none => simp [dueLine_eq_none_iff.mp h l] at hl
  | some k =>
    by_contra hk
    have := hothers k fun e => hk (by rw [e])
    rw [changeDue_of_dueLine h] at this
    cases this

/-- With no step of another kind due, a change whose time is over by now is next. -/
theorem due_of_dueLine (hgathered : s.lnk.gathered.isSome = false) (htake : s.canTake = false) (hadmit : s.canAdmit = false)
    (hreport : s.canReport = false) (hline : s.dueLine s.now = some l) : s.due = some (.change l) := by
  simp [State.due, State.dueBy, hgathered, htake, hadmit, hreport, hline]

/-! ## Samples (R128) -/

theorem sampleInput_of_level (s : State) (l : Fin 8) : s.sampleInput l (s.line l).level = s.setLine l { s.line l with pendingChange := none } := by
  simp [State.sampleInput]

theorem sampleInput_of_begin {level : Bool} (h : level ≠ (s.line l).level) (hp : (s.line l).pendingChange = none) :
    s.sampleInput l level = s.setLine l { s.line l with pendingChange := some (level, s.now) } := by
  simp [State.sampleInput, h, hp]

theorem sampleInput_of_pending {level : Bool} (h : level ≠ (s.line l).level) (hp : (s.line l).pendingChange ≠ none) :
    s.sampleInput l level = s := by
  obtain ⟨c, hc⟩ := Option.ne_none_iff_exists'.mp hp
  simp [State.sampleInput, h, hc]

theorem attentionInputChange_of_quiet (h : s.quiet = true) (l : Fin 8) (level : Bool) :
    exec (.attentionInputChange l level) s = .next (s.sampleInput l level) :=
  congrArg Host.Outcome.next (event_of_quiet (f := fun t => t.sampleInput l level) h (by simp))

theorem canAdmit_setLine (hx : x.eligible = (s.line l).eligible) : (s.setLine l x).canAdmit = s.canAdmit := by
  have hline : (fun k => ((s.setLine l x).line k).eligible) = fun k => (s.line k).eligible := funext fun k => by
    rw [line_setLine]
    split
    · subst k; exact hx
    · rfl
  have hany : (s.setLine l x).anyEligible = s.anyEligible := congrArg allLines.any hline
  simp only [State.canAdmit, State.sourceWaits, hany]
  rfl

/-- On a part at rest a line whose change is due by now is next. -/
theorem due_of_setLine (h : s.quiet = true) (hx : x.eligible = (s.line l).eligible) (hdue : x.changeDue s.now = true) :
    (s.setLine l x).due = some (.change l) := by
  obtain ⟨hgathered, htake, hadmit, hreport, hline, -, -⟩ := dueBy_eq_none_iff.mp (quiet_iff.mp h).2
  refine due_of_dueLine hgathered htake ((canAdmit_setLine hx).trans hadmit) hreport (dueLine_of_only ?_ fun k hk => ?_)
  · rw [line_setLine_self]; exact hdue
  · rw [line_setLine_ne s _ hk]; exact dueLine_eq_none_iff.mp hline k

/-- With filter 0 a change is due in the tick of its first sample (R128). -/
theorem due_of_begin (h : s.quiet = true) (hf : (s.line l).filter = 0) (level : Bool) :
    (s.setLine l { s.line l with pendingChange := some (level, s.now) }).due = some (.change l) :=
  due_of_setLine h rfl (by simp [Line.changeDue, hf])

/-! ## A recognised change and its events (R128 to R131) -/

/-- A line with one event more: the first with the stamp `n`, and at 255 a lost one (R130). -/
def recorded (n : Nat) (x : Line) : Line :=
  if x.count = 0 then { x with count := 1, stamp := some n }
  else if x.count < 255 then { x with count := x.count + 1 } else { x with lost := true }

theorem recordEvent_setLine (s : State) (l : Fin 8) (x : Line) :
    (s.setLine l x).recordEvent l = s.setLine l (recorded ((s.setLine l x).stamps + 1) x) := by
  unfold State.recordEvent State.giveStamp recorded
  simp only [line_setLine_self, setLine_setLine]
  split
  · rfl
  · split <;> rfl

theorem stamps_setLine (hx : x.stamp = (s.line l).stamp) : (s.setLine l x).stamps = s.stamps :=
  stamps_congr fun k => by
    rw [line_setLine]
    split
    · subst k; rw [hx]
    · rfl

/-- The change is one that the line's mode counts, or makes a level line active that holds no event (R130, R131). -/
def RecordsEvent (x : Line) (level : Bool) : Prop :=
  (x.mode = .rise ∧ level = true) ∨ (x.mode = .fall ∧ level = false) ∨ x.mode = .both ∨
    (((x.mode = .levelHigh ∧ level = true) ∨ (x.mode = .levelLow ∧ level = false)) ∧ x.count = 0)

theorem recognise_of_records {level : Bool} (h : RecordsEvent (s.line l) level) :
    s.recognise l level = (s.setLine l (recorded (s.stamps + 1) ((s.line l).recognise level))).route l := by
  have hrec : (s.setLine l ((s.line l).recognise level)).recordEvent l =
      s.setLine l (recorded (s.stamps + 1) ((s.line l).recognise level)) := by
    rw [recordEvent_setLine, stamps_setLine (x := (s.line l).recognise level) rfl]
  have hrearm : (s.line l).mode.counts level = false →
      (s.setLine l ((s.line l).recognise level)).rearm l = (s.setLine l ((s.line l).recognise level)).recordEvent l := fun hc => by
    refine if_pos ?_
    simp only [line_setLine_self, Bool.and_eq_true, decide_eq_true_eq]
    rcases h with ⟨hm, rfl⟩ | ⟨hm, rfl⟩ | hm | ⟨⟨hm, rfl⟩ | ⟨hm, rfl⟩, hz⟩
    · simp [hm, LineMode.counts] at hc
    · simp [hm, LineMode.counts] at hc
    · simp [hm, LineMode.counts] at hc
    · exact ⟨by simp [Line.active, Line.recognise, hm], hz⟩
    · exact ⟨by simp [Line.active, Line.recognise, hm], hz⟩
  rw [← hrec]
  unfold State.recognise
  dsimp only
  split
  · rfl
  · rename_i hc
    rw [hrearm (by simpa using hc)]

theorem recognise_of_not_records {level : Bool} (h : ¬RecordsEvent (s.line l) level) :
    s.recognise l level = (s.setLine l ((s.line l).recognise level)).route l := by
  have hcounts : (s.line l).mode.counts level = false := by
    cases hm : (s.line l).mode <;> simp_all [RecordsEvent, LineMode.counts]
  have hrearm : (s.setLine l ((s.line l).recognise level)).rearm l = s.setLine l ((s.line l).recognise level) := by
    refine if_neg ?_
    simp only [line_setLine_self, Bool.and_eq_true, decide_eq_true_eq, active_iff]
    rintro ⟨ha, hz⟩
    exact h (.inr (.inr (.inr ⟨ha, hz⟩)))
  unfold State.recognise
  dsimp only
  rw [hcounts, hrearm]
  rfl

/-- A recognition for which the time has come finds the state as it stands. -/
theorem changeRecognised_eq {level : Bool} {since : Nat} (hp : (s.line l).pendingChange = some (level, since))
    (h : s.quietTo (max s.now (since + 40 * (s.line l).filter)) = true ∨ (s.holding = false ∧ s.due = some (.change l))) :
    exec (.changeRecognised l) s = .next (State.recognise { s with now := max s.now (since + 40 * (s.line l).filter) } l level) := by
  have hline : s.recogniseLine l = State.recognise { s with now := max s.now (since + 40 * (s.line l).filter) } l level := by
    unfold State.recogniseLine
    rw [hp]
    simp only [Config.us, Config.ticksPerUs, Nat.mul_comm]
    rfl
  have hmoment : (s.takeDue (.change l)).now = max s.now (since + 40 * (s.line l).filter) := by
    show (s.recogniseLine l).now = _
    rw [hline]
    simp
  have hupTo : s.holding = false ∧ s.upTo (.change l) = s := by
    rcases h with h | ⟨hh, hd⟩
    · obtain ⟨hh, hd⟩ := quietTo_iff.mp h
      exact ⟨hh, upTo_of_dueBy_none (by rw [hmoment]; exact hd)⟩
    · exact ⟨hh, upTo_of_dueBy (dueBy_of_due hd _)⟩
  rw [← hline]
  show Host.Outcome.next (if s.holding then s else (s.upTo (.change l)).recogniseLine l) = _
  rw [hupTo.1, hupTo.2]
  rfl

theorem changeRecognised_of_none (h : s.quiet = true) (hp : (s.line l).pendingChange = none) :
    exec (.changeRecognised l) s = .next s := by
  have hline : s.recogniseLine l = s := by unfold State.recogniseLine; rw [hp]
  obtain ⟨hh, hd⟩ := quiet_iff.mp h
  have hupTo : s.upTo (.change l) = s := upTo_of_dueBy_none (by rw [State.takeDue, hline]; exact hd)
  show Host.Outcome.next (if s.holding then s else (s.upTo (.change l)).recogniseLine l) = _
  rw [hh, hupTo, hline]
  rfl

end

/-- Settles O59: a sample on a part at rest, and a recognition whose time has come, split by whether the change records an event. -/
theorem attentionEvents : Obligations.AttentionEvents := by
  intro s l
  refine ⟨fun h level => ⟨?_, fun hne hp => ⟨?_, fun hf => due_of_begin h hf level⟩, fun hne hp => ?_⟩, changeRecognised_of_none, ?_⟩
  · rintro rfl
    rw [attentionInputChange_of_quiet h, sampleInput_of_level]
  · rw [attentionInputChange_of_quiet h, sampleInput_of_begin hne hp]
  · rw [attentionInputChange_of_quiet h, sampleInput_of_pending hne hp]
  · intro level since hp u h y counts
    rw [changeRecognised_eq hp h]
    refine congrArg Host.Outcome.next ?_
    by_cases hr : RecordsEvent (s.line l) level
    · rw [recognise_of_records (s := u) hr]
      rw [if_pos (show counts from hr)]
      rfl
    · rw [recognise_of_not_records (s := u) hr]
      rw [if_neg (show ¬counts from hr)]
      rfl

end Sys2Proof.Attention
end

section
namespace Sys2Proof.Attention

open Sys2Proof Sys2Proof.Machine Sys2Proof.Records Sys2Proof.Operations

/-! ## Routing, one delivery after another (R134) -/

/-- The PARKED head of window `w` has been given its event: it ends DONE with its last operation, and else is READY (R38). -/
def woken (s : State) (w : Fin 6) (r : Record) : State :=
  if r.ops.length ≤ r.opIndex + 1 then s.retireHead w r.advance.endDone
  else s.setHead w { r.advance with state := .ready, wake := none }

section
variable {s t : State} {l : Fin 8} {w : Fin 6} {r : Record} {tag : Word} {rest more : List Word}

@[simp] theorem atn_woken (s : State) (w : Fin 6) (r : Record) : (woken s w r).atn = s.atn := by
  unfold woken
  split <;> simp

theorem route_of_settled (h : (s.line l).waiters = [] ∨ (s.line l).count = 0) : s.route l = s := by
  rcases h with h | h
  · rw [State.route, h]; rfl
  · exact routeUpTo_of_no_event h _

/-- Routing begins with the oldest waiter. -/
theorem route_of_waiter (hw : (s.line l).waiters = tag :: rest) (hc : 1 ≤ (s.line l).count) :
    s.route l = (s.deliver l tag rest).route l := by
  rw [State.route, State.route, waiters_deliver, hw, List.length_cons]
  conv_lhs => unfold State.routeUpTo
  rw [hw]
  exact if_pos hc

/-- Deliveries take the oldest tags off the list, one each. -/
theorem waiters_routeUpTo (l : Fin 8) (n : Nat) (s : State) :
    ∃ gone, (s.line l).waiters = gone ++ ((State.routeUpTo l n s).line l).waiters := by
  induction n generalizing s with
  | zero => exact ⟨[], rfl⟩
  | succ n ih =>
    unfold State.routeUpTo
    split
    · exact ⟨[], rfl⟩
    · rename_i tag rest hw
      split
      · obtain ⟨gone, h⟩ := ih (s.deliver l tag rest)
        rw [waiters_deliver] at h
        exact ⟨tag :: gone, by rw [hw, List.cons_append, ← h]⟩
      · exact ⟨[], rfl⟩

theorem lost_route (s : State) (l : Fin 8) : ((s.route l).line l).lost = (s.line l).lost ∧
    ((s.route l).line l).outstanding = (s.line l).outstanding := by
  have h := (route_consumes s l).settings l
  have hlost := congrArg Line.lost h
  have hout := congrArg Line.outstanding h
  exact ⟨hlost, hout⟩

/-- A delivery to a PARKED head wakes it, and takes one event with it. -/
theorem deliver_of_parked (hd : s.tagsDistinct = true) (hr : s.head w = some r) (hst : r.state = .parked) {d : Option Nat}
    (hwake : r.wake = some (.attention l d)) : s.deliver l r.tag more =
      woken ((s.setLine l { s.line l with waiters := more }).lowerCount l ((s.line l).count - 1)) w r := by
  have hhead : ∀ v, ((s.setLine l { s.line l with waiters := more }).lowerCount l ((s.line l).count - 1)).head v = s.head v := fun v => by
    rw [head_eq, window_congr (s := s) (by simp), ← head_eq]
  exact wakeWaiter_of_parked ((hhead w).trans hr) hst (onLine_eq_some_iff.mpr ⟨d, hwake⟩) fun v q hq htag =>
    (head_unique hd hr ((hhead v).symm.trans hq) htag).1

theorem eq_of_lines (h : t = { s with atn := t.atn }) (hl : ∀ k, t.line k = s.line k) : t = s := by
  have hatn : t.atn = s.atn := Vector.ext fun i hi => hl ⟨i, hi⟩
  rw [h, hatn]

/-- The first event of a line, delivered at once, leaves the line with none and the stamps as they were. -/
theorem lowerCount_of_recorded {x : Line} {n : Nat} (hc : x.count = 0) (hstamp : x.stamp = none) (hlow : x.active = false)
    (hranks : ∀ k m, k ≠ l → (s.line k).stamp = some m → m ≤ n) :
    (s.setLine l { recorded n x with waiters := more }).lowerCount l 0 = s.setLine l { x with waiters := more } := by
  obtain ⟨hframe, hself, hothers⟩ := lineCleared_lowerCount (s.setLine l (recorded n x)) l (x := { recorded n x with waiters := more })
    (by rw [line_setLine_self])
  rw [setLine_setLine] at hframe hself hothers
  have hrec : recorded n x = { x with count := 1, stamp := some n } := if_pos hc
  refine eq_of_lines hframe fun k => ?_
  by_cases hk : k = l
  · subst hk
    have hidle : ¬((x.mode = .levelHigh ∧ x.level = true) ∨ (x.mode = .levelLow ∧ x.level = false)) := by
      rw [← active_iff, hlow]; simp
    rw [hself, hrec, if_neg hidle, line_setLine_self, ← hc, ← hstamp]
  · rw [hothers k hk, line_setLine_ne s _ hk, line_setLine_ne s _ hk, line_setLine_self, hrec]
    have hsame : ((s.line k).stamp.map fun m => if (some n).any (fun g => decide (g < m)) then m - 1 else m) = (s.line k).stamp := by
      cases h : (s.line k).stamp with
      | none => rfl
      | some m =>
        have := hranks k m hk h
        simp [Nat.not_lt.mpr this]
    rw [hsame]

/-- A recognised change that its mode counts wakes the oldest waiter (R130). -/
theorem recognise_wakes {level : Bool} (hd : s.tagsDistinct = true) (hc : (s.line l).count = 0) (hstamp : (s.line l).stamp = none)
    (hm : ((s.line l).mode = .rise ∧ level = true) ∨ ((s.line l).mode = .fall ∧ level = false) ∨ (s.line l).mode = .both)
    (hw : (s.line l).waiters = r.tag :: more) (hr : s.head w = some r) (hst : r.state = .parked) {d : Option Nat}
    (hwake : r.wake = some (.attention l d)) (hranks : ∀ k n, k ≠ l → (s.line k).stamp = some n → n ≤ s.stamps) :
    s.recognise l level = woken (s.setLine l { (s.line l).recognise level with waiters := more }) w r := by
  set y := (s.line l).recognise level with hy
  have hrec : recorded (s.stamps + 1) y = { y with count := 1, stamp := some (s.stamps + 1) } := if_pos hc
  have hlow : y.active = false := by
    rcases hm with ⟨hm, -⟩ | ⟨hm, -⟩ | hm <;> simp [Line.active, hy, Line.recognise, hm]
  have hdeliver := deliver_of_parked (s := s.setLine l (recorded (s.stamps + 1) y)) (l := l) (more := more) hd hr hst hwake
  simp only [line_setLine_self, setLine_setLine] at hdeliver
  rw [show (recorded (s.stamps + 1) y).count - 1 = 0 by rw [hrec]; rfl,
    lowerCount_of_recorded (x := y) hc hstamp hlow fun k n hk h => Nat.le_succ_of_le (hranks k n hk h)] at hdeliver
  rw [recognise_of_records (by rcases hm with h | h | h; exacts [.inl h, .inr (.inl h), .inr (.inr (.inl h))]), ← hy,
    route_of_waiter (tag := r.tag) (rest := more) (by rw [line_setLine_self, hrec]; exact hw) (by rw [line_setLine_self, hrec]), hdeliver]
  refine route_of_settled (.inr ?_)
  rw [line_congr (atn_woken ..), line_setLine_self]
  exact hc

end

/-- Settles O60: routing delivers one event at a time, each as `deliver_of_parked` says, and a counted change of a line with waiters records
the one event that its delivery takes again. -/
theorem routing : Obligations.Routing := by
  unfold Obligations.Routing
  intro next wakes
  refine ⟨route_ends, fun s l => ⟨(lost_route s l).1, (lost_route s l).2, waiters_routeUpTo l _ s⟩, fun s l => route_of_settled,
    fun s l w r more d hd hw hc hr hst hwake => ?_, ?_⟩
  · have hroute := route_of_waiter hw hc
    rw [deliver_of_parked hd hr hst hwake] at hroute
    refine ⟨fun h2 => ?_, fun h1 => ⟨_, lineCleared_lowerCount s l rfl, ?_⟩⟩
    · rw [hroute, lowerCount_of_pos _ l (by omega), setLine_setLine, line_setLine_self]
      rfl
    · rw [hroute, h1]
      rfl
  · intro s l w r more d level since u hd hquiet hp hc hstamp hm hw hr hst hwake hranks
    rw [changeRecognised_eq hp hquiet, recognise_wakes (s := u) hd hc hstamp hm hw hr hst hwake hranks]
    have hedge : (s.line l).mode ≠ .off := by rcases hm with ⟨hm, -⟩ | ⟨hm, -⟩ | hm <;> simp [hm]
    have hline : { (u.line l).recognise level with waiters := more } =
        { s.line l with level := level, pendingChange := none, lastEdge := if level then .rise else .fall, waiters := more } := by
      simp only [Line.recognise, show u.line l = s.line l from rfl, if_neg hedge]
    rw [hline]
    rfl

end Sys2Proof.Attention
end

section
namespace Sys2Proof.Attention

open Sys2Proof Sys2Proof.Machine Sys2Proof.Windows Sys2Proof.Cancellation Sys2Proof.Operations

/-! ## SETUP ATTENTION and ACKNOWLEDGE ATTENTION (R139 to R141) -/

theorem lineOf_eq_none_iff (b : Byte) : lineOf b = none ↔ 7 < b.toNat := by
  unfold lineOf
  split <;> simp <;> omega

theorem lineOf_of_le {b : Byte} (h : b.toNat ≤ 7) : lineOf b = some (Fin.ofNat 8 b.toNat) := by
  have hmod : b.toNat % 8 = b.toNat := Nat.mod_eq_of_lt (by omega)
  unfold lineOf
  rw [dif_pos (by omega)]
  exact congrArg some (Fin.ext hmod.symm)

theorem lineOf_byteOf (l : Fin 8) : lineOf (byteOf l.val) = some l := by revert l; decide

theorem lineModeOf_eq_none_iff (b : Byte) : lineModeOf b = none ↔ 5 < b.toNat := by revert b; decide

theorem lineModeOf_byte (mode : LineMode) : lineModeOf mode.byte = some mode := by cases mode <;> rfl

theorem priorityOf_eq_none_iff (n : Nat) : within 0 3 n = none ↔ 3 < n := by
  unfold within
  split <;> simp <;> omega

theorem priorityOf_byteOf (p : Fin 4) : within 0 3 (byteOf p.val).toNat = some p.val := by revert p; decide

section
variable {s : State} {m : Message} {rest : List Message} {l : Fin 8}

theorem formatOk_setupAttention (m : Message) : RequestKind.setupAttention.formatOk m = true ↔ m.length = 6 := decide_eq_true_iff

theorem exec_setupAttention (h : s.offers m rest) (hk : m.headD 0#8 = 0x06#8) :
    exec .setupAttention s = .next ((s.pop rest).setupAttention m) :=
  congrArg Host.Outcome.next (takeKind_of_offers (k := .setupAttention) h hk State.setupAttention)

theorem setupAttention_of_length (hlen : m.length ≠ 6) : s.setupAttention m = s.refuseFormat m := by
  unfold State.setupAttention
  rw [if_neg (mt (formatOk_setupAttention m).mp hlen)]

theorem setupAttention_of_no_line (hlen : m.length = 6) (hl : lineOf (byteAt m 1) = none) :
    s.setupAttention m = s.refuse .setupAttention m .badLine := by
  unfold State.setupAttention
  rw [if_pos ((formatOk_setupAttention m).mpr hlen), hl]

theorem setupAttention_of_no_value (hlen : m.length = 6) (hl : lineOf (byteAt m 1) = some l)
    (hv : lineModeOf (byteAt m 2) = none ∨ within 0 3 (byteAt m 3).toNat = none ∨ yesNo (byteAt m 5) = none) :
    s.setupAttention m = s.refuse .setupAttention m .badValue := by
  unfold State.setupAttention
  rw [if_pos ((formatOk_setupAttention m).mpr hlen), hl]
  rcases hv with h | h | h <;> simp [h]

/-- With every field in its range one check is left: no transaction waits on the line. -/
theorem setupAttention_of_values (hlen : m.length = 6) (hl : lineOf (byteAt m 1) = some l) {mode : LineMode} {priority : Nat} {report : Bool}
    (hm : lineModeOf (byteAt m 2) = some mode) (hp : within 0 3 (byteAt m 3).toNat = some priority) (hr : yesNo (byteAt m 5) = some report) :
    s.setupAttention m = if (s.line l).waiters ≠ [] then s.refuse .setupAttention m .busy
      else (s.setupLine l mode priority (byteAt m 4).toNat report).accept .setupAttention [byteAt m 1] := by
  unfold State.setupAttention
  rw [if_pos ((formatOk_setupAttention m).mpr hlen), hl, hm, hp, hr]

/-- A line set up anew has its events cleared (R141); the message taken before it is a matter of its own. -/
theorem setupLine_pop (s : State) (rest : List Message) (l : Fin 8) (mode : LineMode) (priority filter : Nat) (report : Bool) :
    ∃ t, (s.pop rest).setupLine l mode priority filter report = t.pop rest ∧ s.lineCleared t l { s.line l with
      mode := mode, priority := priority, filter := filter, report := report
      lost := false, outstanding := false, pendingChange := (s.line l).pendingChange.map fun c => (c.1, s.now) } := by
  obtain ⟨hframe, hself, hothers⟩ := lineCleared_lowerCount (s.pop rest) l (x := { s.line l with
    mode := mode, priority := priority, filter := filter, report := report
    lost := false, outstanding := false, pendingChange := (s.line l).pendingChange.map fun c => (c.1, s.now) }) rfl
  exact ⟨{ s with atn := ((s.pop rest).setupLine l mode priority filter report).atn }, hframe, rfl, hself, hothers⟩

theorem formatOk_acknowledgeAttention (m : Message) : RequestKind.acknowledgeAttention.formatOk m = true ↔ m.length = 2 :=
  decide_eq_true_iff

theorem exec_acknowledgeAttention (h : s.offers m rest) (hk : m.headD 0#8 = 0x07#8) :
    exec .acknowledgeAttention s = .next ((s.pop rest).acknowledgeAttention m) :=
  congrArg Host.Outcome.next (takeKind_of_offers (k := .acknowledgeAttention) h hk State.acknowledgeAttention)

theorem acknowledgeAttention_of_length (hlen : m.length ≠ 2) : s.acknowledgeAttention m = s.refuseFormat m := by
  unfold State.acknowledgeAttention
  rw [if_neg (mt (formatOk_acknowledgeAttention m).mp hlen)]

theorem acknowledgeAttention_of_no_line (hlen : m.length = 2) (hl : lineOf (byteAt m 1) = none) :
    s.acknowledgeAttention m = s.refuse .acknowledgeAttention m .badLine := by
  unfold State.acknowledgeAttention
  rw [if_pos ((formatOk_acknowledgeAttention m).mpr hlen), hl]

theorem acknowledgeAttention_of_line (hlen : m.length = 2) (hl : lineOf (byteAt m 1) = some l) :
    s.acknowledgeAttention m = if (s.line l).outstanding then
        (s.setLine l { s.line l with outstanding := false }).accept .acknowledgeAttention [byteAt m 1]
      else s.refuse .acknowledgeAttention m .notOutstanding := by
  unfold State.acknowledgeAttention
  rw [if_pos ((formatOk_acknowledgeAttention m).mpr hlen), hl]

theorem setupAttention_checks (h : s.offers m rest) (hk : m.headD 0#8 = 0x06#8) :
    s.refusedFirst .setupAttention 0x06#8 rest [byteAt m 1] [
      (decide (m.length ≠ 6), .badFormat),
      (decide (7 < (byteAt m 1).toNat), .badLine),
      (decide (5 < (byteAt m 2).toNat ∨ 3 < (byteAt m 3).toNat ∨ 1 < (byteAt m 5).toNat), .badValue),
      (decide ((s.line (Fin.ofNat 8 (byteAt m 1).toNat)).waiters ≠ []), .busy)] := by
  have hexec := exec_setupAttention h hk
  obtain ⟨-, -, hwait⟩ := h
  by_cases hlen : m.length = 6
  case neg =>
    refine refusedFirst_of_refuseFormat (k := .setupAttention) (by simp [firstFailure_cons, hlen]) hk hwait ?_
    rw [hexec, setupAttention_of_length hlen]
  by_cases hl : 7 < (byteAt m 1).toNat
  · refine refusedFirst_of_refuse (k := .setupAttention) (code := .badLine) (by simp [firstFailure_cons, hlen, hl]) (by decide) hwait ?_
    rw [hexec, setupAttention_of_no_line hlen ((lineOf_eq_none_iff _).mpr hl)]
  have hline := lineOf_of_le (Nat.not_lt.mp hl)
  generalize Fin.ofNat 8 (byteAt m 1).toNat = l at hline ⊢
  by_cases hv : 5 < (byteAt m 2).toNat ∨ 3 < (byteAt m 3).toNat ∨ 1 < (byteAt m 5).toNat
  · refine refusedFirst_of_refuse (k := .setupAttention) (code := .badValue) (by simp [firstFailure_cons, hlen, hl, hv]) (by decide)
      hwait ?_
    rw [hexec, setupAttention_of_no_value hlen hline
      (hv.imp (lineModeOf_eq_none_iff _).mpr (Or.imp (priorityOf_eq_none_iff _).mpr (yesNo_eq_none_iff _).mpr))]
  have hvalues : ¬5 < (byteAt m 2).toNat ∧ ¬3 < (byteAt m 3).toNat ∧ ¬1 < (byteAt m 5).toNat := by simpa [not_or] using hv
  obtain ⟨hmode, hpriority, hreport⟩ := hvalues
  obtain ⟨mode, hmode⟩ := Option.ne_none_iff_exists'.mp (mt (lineModeOf_eq_none_iff _).mp hmode)
  obtain ⟨priority, hpriority⟩ := Option.ne_none_iff_exists'.mp (mt (priorityOf_eq_none_iff _).mp hpriority)
  obtain ⟨report, hreport⟩ := Option.ne_none_iff_exists'.mp (mt (yesNo_eq_none_iff _).mp hreport)
  have hfields := setupAttention_of_values (s := s.pop rest) hlen hline hmode hpriority hreport
  by_cases hw : (s.line l).waiters = []
  · exact refusedFirst_of_accept (k := .setupAttention) (by simp [firstFailure_cons, firstFailure_nil, hlen, hl, hv, hw])
      (hexec.trans (congrArg _ (hfields.trans (if_neg (not_not.mpr hw)))))
  · refine refusedFirst_of_refuse (k := .setupAttention) (code := .busy) (by simp [firstFailure_cons, hlen, hl, hv, hw]) (by decide)
      hwait (hexec.trans (congrArg _ (hfields.trans (if_pos hw))))

theorem acknowledgeAttention_checks (h : s.offers m rest) (hk : m.headD 0#8 = 0x07#8) :
    s.refusedFirst .acknowledgeAttention 0x07#8 rest [byteAt m 1] [
      (decide (m.length ≠ 2), .badFormat),
      (decide (7 < (byteAt m 1).toNat), .badLine),
      (decide ((s.line (Fin.ofNat 8 (byteAt m 1).toNat)).outstanding = false), .notOutstanding)] := by
  have hexec := exec_acknowledgeAttention h hk
  obtain ⟨-, -, hwait⟩ := h
  by_cases hlen : m.length = 2
  case neg =>
    refine refusedFirst_of_refuseFormat (k := .acknowledgeAttention) (by simp [firstFailure_cons, hlen]) hk hwait ?_
    rw [hexec, acknowledgeAttention_of_length hlen]
  by_cases hl : 7 < (byteAt m 1).toNat
  · refine refusedFirst_of_refuse (k := .acknowledgeAttention) (code := .badLine) (by simp [firstFailure_cons, hlen, hl]) (by decide)
      hwait ?_
    rw [hexec, acknowledgeAttention_of_no_line hlen ((lineOf_eq_none_iff _).mpr hl)]
  have hline := lineOf_of_le (Nat.not_lt.mp hl)
  generalize Fin.ofNat 8 (byteAt m 1).toNat = l at hline ⊢
  have hfields := acknowledgeAttention_of_line (s := s.pop rest) hlen hline
  by_cases hout : (s.line l).outstanding = true
  · exact refusedFirst_of_accept (k := .acknowledgeAttention) (by simp [firstFailure_cons, firstFailure_nil, hlen, hl, hout])
      (hexec.trans (congrArg _ (hfields.trans (if_pos hout))))
  · exact refusedFirst_of_refuse (k := .acknowledgeAttention) (code := .notOutstanding) (by simp [firstFailure_cons, hlen, hl, hout])
      (by decide) hwait (hexec.trans (congrArg _ (hfields.trans (if_neg hout))))

end

/-- Settles O32: the model's checks are these in this order; a setup is a line whose events are cleared, an acknowledgement a flag. -/
theorem lineRequests : Obligations.LineRequests := by
  intro s m rest h
  refine ⟨setupAttention_checks h, fun l mode priority filter report hm hw => ?_, acknowledgeAttention_checks h, fun l hm hout => ?_⟩
  all_goals
    subst hm
    have ⟨_, _, hwait⟩ := h
  · have hfields := setupAttention_of_values (s := s.pop rest) (l := l) (mode := mode) (priority := priority) (report := report)
      (m := [0x06#8, byteOf l.val, mode.byte, byteOf priority.val, filter, flagByte report])
      rfl (lineOf_byteOf l) (lineModeOf_byte mode) (priorityOf_byteOf priority) (yesNo_flagByte report)
    obtain ⟨t, ht, hcleared⟩ := setupLine_pop s rest l mode priority.val filter.toNat report
    refine ⟨t, ?_, hcleared⟩
    rw [exec_setupAttention h rfl, hfields.trans (if_neg (not_not.mpr hw))]
    have hdsp : t.dsp.holdWait = none := by rw [hcleared.1]; exact hwait
    exact congrArg Host.Outcome.next ((congrArg (fun u => State.accept u .setupAttention [byteOf l.val]) ht).trans (reply_pop hdsp ..))
  · have hfields := acknowledgeAttention_of_line (s := s.pop rest) (m := [0x07#8, byteOf l.val]) rfl (lineOf_byteOf l)
    rw [exec_acknowledgeAttention h rfl, hfields.trans (if_pos hout)]
    exact congrArg Host.Outcome.next (reply_pop (s := s.setLine l { s.line l with outstanding := false }) hwait ..)

end Sys2Proof.Attention
end

section
namespace Sys2Proof.Attention

open Sys2Proof Sys2Proof.Machine Sys2Proof.Records Sys2Proof.Operations

/-! ## What is left to do (log entry 1)

Each step that is due takes away some of what makes steps due: a gathered frame, a waiting request, a source of reports, a report, a
pending change, a release. `Eases` says that an operation adds to none of it but the reply, the records and the lines, which are counted
by themselves. -/

/-- Frame, requests, reports, share overrun, and the holding state. -/
def workload (s : State) : Option (List Byte) × List Message × List Report × Option Overrun × Bool :=
  (s.lnk.gathered, s.lnk.intake, s.rpt.queue, s.rpt.overrun, s.holding)

/-- A release whose BGNT has asserted. -/
def granted (s : State) : Bool := s.bus.release.any fun r => r.start.isSome

/-- Nothing of the workload has changed, and no release has been granted. -/
structure Eases (s t : State) : Prop where
  workload : workload t = workload s
  granted : granted t = true → granted s = true

section
variable {s t u : State} {l : Fin 8} {w : Fin 6} {r : Record}

theorem Eases.trans (h : Eases s t) (k : Eases t u) : Eases s u :=
  ⟨k.workload.trans h.workload, fun hu => h.granted (k.granted hu)⟩

theorem Eases.frame (h : Attention.workload t = Attention.workload s) (hr : t.bus.release = s.bus.release) : Eases s t :=
  ⟨h, by simp [Attention.granted, hr]⟩

theorem Eases.refl (s : State) : Eases s s := .frame rfl rfl

/-! ### The settlement -/

theorem retireHead_eases (s : State) (w : Fin 6) (r : Record) : Eases s (s.retireHead w r) :=
  .frame (by simp [workload, State.retireHead]) (by simp)

theorem failHead_eases (s : State) (w : Fin 6) (r : Record) (reason : FailReason) (detail : Nat) :
    Eases s (s.failHead w r reason detail) := by
  obtain ⟨hrpt, -⟩ := failHead_parts s w r reason detail
  refine .frame ?_ (by simp)
  simp [workload, hrpt, State.retireHead]

theorem wakeWaiter_eases (s : State) (l : Fin 8) (tag : Word) : Eases s (s.wakeWaiter l tag) := by
  rcases wakeWaiter_cases s l tag with e | ⟨w, r, -, ⟨-, e⟩ | ⟨-, e⟩ | ⟨-, e⟩⟩ <;> rw [e]
  · exact .refl s
  · exact .frame (by simp [workload]) (by simp)
  · exact retireHead_eases s w _
  · exact .frame (by simp [workload]) (by simp)

theorem deliver_eases (s : State) (l : Fin 8) (tag : Word) (rest : List Word) : Eases s (s.deliver l tag rest) := by
  have h : Eases s ((s.setLine l { s.line l with waiters := rest }).lowerCount l ((s.line l).count - 1)) :=
    .frame (by simp [workload]) (by simp)
  exact h.trans (wakeWaiter_eases _ l tag)

theorem routeUpTo_eases (l : Fin 8) (n : Nat) (s : State) : Eases s (State.routeUpTo l n s) := by
  induction n generalizing s with
  | zero => exact .refl s
  | succ n ih =>
    unfold State.routeUpTo
    split
    · exact .refl s
    · split
      · exact (deliver_eases s l _ _).trans (ih _)
      · exact .refl s

theorem register_eases (s : State) (l : Fin 8) (tag : Word) : Eases s (s.register l tag) := by
  refine Eases.trans (t := s.setLine l { s.line l with waiters := (s.line l).waiters ++ [tag] }) ?_ (routeUpTo_eases l _ _)
  exact .frame (by simp [workload]) (by simp)

theorem beginAccess_eases (s : State) (w : Fin 6) (r : Record) : Eases s (s.beginAccess w r) := by
  refine .frame (by simp [workload]) ?_
  unfold State.beginAccess
  split
  · rfl
  · split
    · rfl
    · dsimp only
      unfold BusEngine.begin
      split <;> rfl

theorem beginOrWait_eases (s : State) (w : Fin 6) (r : Record) : Eases s (s.beginOrWait w r) := by
  unfold State.beginOrWait
  split
  · exact .refl s
  · exact beginAccess_eases s w r

theorem yieldOrGo_eases (s : State) (starts : Bool) (w : Fin 6) (r : Record) : Eases s (s.yieldOrGo starts w r) := by
  have hslice : Eases s (if s.sliceReached then { s with sch.slice := 0 } else s) := by split <;> exact .frame rfl rfl
  unfold State.yieldOrGo
  dsimp only
  split
  · exact .frame (by simp [workload]) (by simp)
  · split
    · exact hslice.trans (beginOrWait_eases _ w r)
    · exact hslice

theorem settleUpTo_eases (starts : Bool) (w : Fin 6) (n : Nat) (s : State) {b : Boundary}
    (hnf : ∀ reason detail, b ≠ .failed reason detail) : Eases s (State.settleUpTo starts w n b s) := by
  induction n using Nat.strong_induction_on generalizing s b with
  | _ n ih =>
  cases hr : s.head w with
  | none => rw [settleUpTo_of_empty starts hr]; exact .refl s
  | some r =>
  have h := settleUpTo_settles starts hr n hnf
  generalize State.settleUpTo starts w n b s = t at h
  cases h with
  | done | cancelled => exact retireHead_eases s w _
  | park => exact .frame (by simp [workload]) (by simp)
  | go => exact yieldOrGo_eases s starts w r
  | lineOff => exact failHead_eases ..
  | wait l => exact (register_eases s l r.tag).trans (.frame (by simp [workload]) (by simp))
  | stop l => exact register_eases s l r.tag
  | again l k hk => exact (register_eases s l r.tag).trans (ih k (by omega) _ (by simp))

/-- A release begins with BGNT to come. -/
theorem releaseBus_eases (s : State) (displaced : Option (Fin 6)) : Eases s (s.releaseBus displaced) :=
  ⟨rfl, by simp [granted, State.releaseBus]⟩

theorem releaseAt_eases (s : State) (w : Fin 6) : Eases s (s.releaseAt w) := by
  unfold State.releaseAt
  split
  · exact releaseBus_eases s _
  · exact .refl s

theorem settleWaiting_eases (s : State) : Eases s s.settleWaiting := by
  unfold State.settleWaiting
  split
  · split
    · exact (settleUpTo_eases true _ _ s (by simp)).trans (releaseAt_eases _ _)
    · exact .refl s
  · exact .refl s

theorem answerRequest_eases (s : State) : Eases s s.answerRequest := by
  unfold State.answerRequest
  split
  · split
    · exact settleWaiting_eases s
    · split
      · exact releaseBus_eases s none
      · exact .refl s
  · exact .refl s

/-! ### The requests -/

theorem cancelFound_eases (s : State) (w : Fin 6) (r : Record) : Eases s (s.cancelFound w r) := by
  have hnow : ∀ cause, Eases s (s.cancelNow w r cause) := fun _ =>
    .frame (by simp [workload, State.cancelNow]) (by simp [State.cancelNow])
  unfold State.cancelFound
  split
  · split
    · exact Eases.trans (t := s.setQueue w _) (.frame (by simp [workload]) (by simp)) (settleWaiting_eases _)
    · exact .refl s
  all_goals exact hnow _

theorem flushWindow_eases (s : State) (w : Fin 6) : Eases s (s.flushWindow w) := by
  unfold State.flushWindow
  dsimp only
  repeat' split
  all_goals exact .frame (by simp [workload]) (by simp)

theorem clearWindow_eases (s : State) (w : Fin 6) (discard : Bool) : Eases s (s.clearWindow w discard) := by
  cases discard <;> exact .frame rfl rfl

theorem refuse_eases (s : State) (k : RequestKind) (m : Message) (code : ResultCode) : Eases s (s.refuse k m code) := .frame rfl rfl

theorem refuseFormat_eases (s : State) (m : Message) : Eases s (s.refuseFormat m) := .frame rfl rfl

theorem accept_eases (s : State) (k : RequestKind) (body : List Byte) : Eases s (s.accept k body) := .frame rfl rfl

theorem submit_eases (s : State) (m : Message) : Eases s (s.submit m) := by
  unfold State.submit
  repeat' split
  all_goals exact .frame rfl rfl

theorem cancel_eases (s : State) (m : Message) : Eases s (s.cancel m) := by
  unfold State.cancel
  dsimp only
  split
  · split
    · exact refuse_eases ..
    · split
      · exact (cancelFound_eases s _ _).trans (accept_eases ..)
      · split <;> exact refuse_eases ..
  · exact refuseFormat_eases s m

theorem flush_eases (s : State) (m : Message) : Eases s (s.flush m) := by
  unfold State.flush
  split
  · split
    · exact refuse_eases ..
    · exact (flushWindow_eases s _).trans (accept_eases ..)
  · exact refuseFormat_eases s m

theorem configureWindow_eases (s : State) (m : Message) : Eases s (s.configureWindow m) := by
  unfold State.configureWindow
  repeat' split
  all_goals exact .frame rfl rfl

theorem clearFault_eases (s : State) (m : Message) : Eases s (s.clearFault m) := by
  unfold State.clearFault
  split
  · split
    · exact refuse_eases ..
    · split
      · exact refuse_eases ..
      · split
        · exact refuse_eases ..
        · exact (clearWindow_eases s _ _).trans (accept_eases ..)
  · exact refuseFormat_eases s m

theorem setupAttention_eases (s : State) (m : Message) : Eases s (s.setupAttention m) := by
  have hsetup : ∀ l mode priority filter report, Eases s (s.setupLine l mode priority filter report) := fun _ _ _ _ _ =>
    .frame (by simp [workload]) (by simp)
  unfold State.setupAttention
  split
  · split
    · exact refuse_eases ..
    · split
      · split
        · exact refuse_eases ..
        · exact (hsetup ..).trans (accept_eases ..)
      · exact refuse_eases ..
  · exact refuseFormat_eases s m

theorem acknowledgeAttention_eases (s : State) (m : Message) : Eases s (s.acknowledgeAttention m) := by
  unfold State.acknowledgeAttention
  repeat' split
  all_goals exact .frame rfl rfl

theorem holdRequest_eases (s : State) (m : Message) : Eases s (s.holdRequest m) := by
  have hset : Eases s { s with sch.hold := true } := .frame rfl rfl
  unfold State.holdRequest State.holdClear
  dsimp only
  split
  · split
    · exact accept_eases ..
    · split
      · exact hset.trans ((settleWaiting_eases _).trans (.frame rfl rfl))
      · exact .frame rfl rfl
  · exact refuseFormat_eases s m

theorem setSharing_eases (s : State) (m : Message) : Eases s (s.setSharing m) := by
  unfold State.setSharing
  split
  · split
    · exact refuse_eases ..
    · split
      · refine Eases.trans ?_ ((answerRequest_eases _).trans (accept_eases ..))
        exact .frame rfl rfl
      · exact refuse_eases ..
  · exact refuseFormat_eases s m

theorem resumeRequest_eases (s : State) (m : Message) : Eases s (s.resumeRequest m) := by
  unfold State.resumeRequest
  repeat' split
  all_goals exact .frame rfl rfl

theorem setLink_eases (s : State) (m : Message) : Eases s (s.setLink m) := by
  unfold State.setLink
  repeat' split
  all_goals exact .frame rfl rfl

theorem queryDevice_eases (s : State) (m : Message) : Eases s (s.queryDevice m) := by
  unfold State.queryDevice
  split <;> exact .frame rfl rfl

theorem queryWindow_eases (s : State) (m : Message) : Eases s (s.queryWindow m) := by
  unfold State.queryWindow
  repeat' split
  all_goals exact .frame rfl rfl

theorem queryTransaction_eases (s : State) (m : Message) : Eases s (s.queryTransaction m) := by
  unfold State.queryTransaction
  repeat' split
  all_goals exact .frame rfl rfl

theorem queryAttention_eases (s : State) (m : Message) : Eases s (s.queryAttention m) := by
  unfold State.queryAttention
  split <;> exact .frame rfl rfl

theorem queryLink_eases (s : State) (m : Message) : Eases s (s.queryLink m) := by
  unfold State.queryLink
  repeat' split
  all_goals exact .frame rfl rfl

end

end Sys2Proof.Attention
end

section
namespace Sys2Proof.Attention

open Sys2Proof Sys2Proof.Machine Sys2Proof.Records Sys2Proof.Operations

/-! ## The burden: a bound on the steps that are due -/

/-- The lines with a pending change. -/
def pendings (s : State) : Nat := Finset.card {l : Fin 8 | (s.line l).pendingChange.isSome}

/-- The lines without an outstanding notice. -/
def unreported (s : State) : Nat := Finset.card {l : Fin 8 | (s.line l).outstanding = false}

/-- What no request adds to. -/
def standing (s : State) : Nat :=
  (if s.lnk.gathered.isSome then 26 else 0) + 25 * s.lnk.intake.length + s.rpt.queue.length + (if s.rpt.overrun.isSome then 2 else 0)
    + (if granted s then 1 else 0) + pendings s

/-- The terms of `State.dueBound`, each as large as it is: every step that is due lowers it. -/
def burden (s : State) : Nat :=
  standing s + 2 * s.live.length + (if s.dsp.slot.isSome then 2 else 0) + 2 * unreported s

section
variable {s t u : State} {l : Fin 8}

theorem pendings_le_eight (s : State) : pendings s ≤ 8 := Finset.card_le_univ _

theorem unreported_le_eight (s : State) : unreported s ≤ 8 := Finset.card_le_univ _

theorem pendings_le (h : ∀ l, (t.line l).pendingChange.isSome → (s.line l).pendingChange.isSome) : pendings t ≤ pendings s :=
  Finset.card_le_card fun l => by simpa using h l

theorem pendings_lt (h : ∀ l, (t.line l).pendingChange.isSome → (s.line l).pendingChange.isSome) (hs : (s.line l).pendingChange.isSome)
    (ht : (t.line l).pendingChange = none) : pendings t < pendings s :=
  Finset.card_lt_card (Finset.ssubset_iff_of_subset (fun l => by simpa using h l) |>.mpr ⟨l, by simpa using hs, by simp [ht]⟩)

theorem unreported_le (h : ∀ l, (t.line l).outstanding = false → (s.line l).outstanding = false) : unreported t ≤ unreported s :=
  Finset.card_le_card fun l => by simpa using h l

theorem unreported_lt (h : ∀ l, (t.line l).outstanding = false → (s.line l).outstanding = false) (hs : (s.line l).outstanding = false)
    (ht : (t.line l).outstanding = true) : unreported t < unreported s :=
  Finset.card_lt_card (Finset.ssubset_iff_of_subset (fun l => by simpa using h l) |>.mpr ⟨l, by simpa using hs, by simp [ht]⟩)

theorem burden_le_dueBound (s : State) : burden s ≤ s.dueBound := by
  have hp := pendings_le_eight s
  have hu := unreported_le_eight s
  have hreply : (if s.dsp.slot.isSome then 2 else 0) ≤ 2 := by split <;> omega
  have hoverrun : (if s.rpt.overrun.isSome then 2 else 0) ≤ 2 := by split <;> omega
  have hgranted : (if granted s then 1 else 0) ≤ 1 := by split <;> omega
  unfold burden standing State.dueBound
  omega

/-! ### Settings of a line -/

theorem pendingChange_of_settings {x y : Line} (h : settings x = settings y) : x.pendingChange = y.pendingChange :=
  show (settings x).pendingChange = (settings y).pendingChange by rw [h]

theorem outstanding_of_settings {x y : Line} (h : settings x = settings y) : x.outstanding = y.outstanding :=
  show (settings x).outstanding = (settings y).outstanding by rw [h]

theorem filter_of_settings {x y : Line} (h : settings x = settings y) : x.filter = y.filter :=
  show (settings x).filter = (settings y).filter by rw [h]

/-! ### Requests -/

theorem Eases.standing_le (h : Eases s t) (hp : ∀ l, (t.line l).pendingChange.isSome → (s.line l).pendingChange.isSome) :
    standing t ≤ standing s := by
  have hpendings := pendings_le hp
  have hgranted : (if Attention.granted t then 1 else 0) ≤ (if Attention.granted s then 1 else 0) := by
    by_cases ht : Attention.granted t = true
    · rw [if_pos ht, if_pos (h.granted ht)]
    · rw [if_neg ht]; omega
  have hw := h.workload
  simp only [Attention.workload, Prod.mk.injEq] at hw
  obtain ⟨hgathered, hintake, hqueue, hoverrun, -⟩ := hw
  unfold standing
  rw [hgathered, hintake, hqueue, hoverrun]
  omega

theorem Eases.holding (h : Eases s t) : t.holding = s.holding := by
  have hw := h.workload
  simp only [Attention.workload, Prod.mk.injEq] at hw
  exact hw.2.2.2.2

/-- What a request carried out adds to: the reply, one record, the lines whose notice is not outstanding. -/
structure Answers (s t : State) : Prop where
  holding : t.holding = s.holding
  standing : standing t ≤ standing s
  live : t.live.length ≤ s.live.length + 1

theorem Answers.of_eases (h : Eases s t) (hp : ∀ l, (t.line l).pendingChange.isSome → (s.line l).pendingChange.isSome)
    (hl : t.live.length ≤ s.live.length + 1) : Answers s t := ⟨h.holding, h.standing_le hp, hl⟩

theorem Answers.of_moves (h : Eases s t) (hp : ∀ l, (t.line l).pendingChange.isSome → (s.line l).pendingChange.isSome)
    (hm : Moves False s t) : Answers s t := .of_eases h hp (by have := hm.count; omega)

theorem Answers.of_runs (h : Eases s t) (hr : Runs s t) (hm : Moves False s t) : Answers s t :=
  .of_moves h (fun l => by rw [pendingChange_of_settings (hr.consumes.settings l)]; exact id) hm

theorem submit_answers (s : State) (m : Message) : Answers s (s.submit m) := by
  refine .of_eases (submit_eases s m) (fun l => ?_) ?_
  · have hline : (s.submit m).line l = s.line l := by
      unfold State.submit
      repeat' split
      all_goals rfl
    rw [hline]
    exact id
  · unfold State.submit
    split
    · split
      · exact Nat.le_succ _
      · rename_i x _
        obtain ⟨front, back, hj⟩ := acceptSubmit_joins s x
        exact (hj.live_perm.length_eq).le
    · exact Nat.le_succ _

theorem configureWindow_answers (s : State) (m : Message) : Answers s (s.configureWindow m) := by
  refine .of_eases (configureWindow_eases s m) (fun l => ?_) ?_
  · have hline : (s.configureWindow m).line l = s.line l := by
      unfold State.configureWindow
      repeat' split
      all_goals rfl
    rw [hline]
    exact id
  · have haccept : ∀ w q enable body, ((s.configure w q enable).accept .configureWindow body).live = s.live := fun w q enable body =>
      configure_live q enable
    unfold State.configureWindow
    repeat' split
    case h_1.isFalse.isFalse => rw [haccept]; exact Nat.le_succ _
    all_goals exact Nat.le_succ _

theorem isSome_pendingChange_setLine {x : Line} (h : x.pendingChange.isSome → (s.line l).pendingChange.isSome) (k : Fin 8) :
    ((s.setLine l x).line k).pendingChange.isSome → (s.line k).pendingChange.isSome := by
  rw [line_setLine]
  split
  · subst k; exact h
  · exact id

theorem setupAttention_answers (s : State) (m : Message) : Answers s (s.setupAttention m) := by
  refine .of_moves (setupAttention_eases s m) (fun k => ?_) (setupAttention_moves False.elim m)
  have hsetup : ∀ l mode priority filter report,
      ((s.setupLine l mode priority filter report).line k).pendingChange.isSome → (s.line k).pendingChange.isSome := by
    intro l mode priority filter report
    unfold State.setupLine
    dsimp only
    rw [pendingChange_of_settings (settings_lowerCount _ l 0 k)]
    exact isSome_pendingChange_setLine (by simp) k
  unfold State.setupAttention
  repeat' split
  case h_1.isFalse => exact fun h => hsetup _ _ _ _ _ h
  all_goals exact id

theorem acknowledgeAttention_answers (s : State) (m : Message) : Answers s (s.acknowledgeAttention m) := by
  refine .of_moves (acknowledgeAttention_eases s m) (fun k => ?_) (acknowledgeAttention_moves False.elim m)
  unfold State.acknowledgeAttention
  repeat' split
  case h_2.isTrue => exact isSome_pendingChange_setLine (x := { s.line _ with outstanding := false }) id k
  all_goals exact id

/-! ### A reset -/

/-- A reset leaves nothing that a step is due for. -/
theorem standing_resetBlocks (s : State) (cause : ResetCause) (scratch : List Host.Cell) (data : Word) (holding : Bool) :
    standing (s.resetBlocks cause scratch data holding) = 0 := by
  have hp : pendings (s.resetBlocks cause scratch data holding) = 0 := by simp [pendings, line_resetBlocks, Line.reset]
  unfold standing
  rw [hp]
  rfl

/-- What the Link Controller holds from the host: a gathered frame and the Intake Queue. -/
def received (s : State) : Option (List Byte) × List Message := (s.lnk.gathered, s.lnk.intake)

theorem received_sendData (s : State) (x : ReplayFrame) : received (s.sendData x) = received s := by
  unfold State.sendData
  dsimp only
  split <;> rfl

theorem received_transmitUp (s : State) : received s.transmitUp = received s := by
  unfold State.transmitUp
  split
  · rfl
  split
  · exact received_sendData s _
  split
  · exact received_sendData s _
  split <;> rfl

@[simp] theorem received_transmit (s : State) : received s.transmit = received s := by
  unfold State.transmit
  split
  · rfl
  split
  · rfl
  split
  · exact received_transmitUp s
  all_goals split <;> rfl

/-- The transmitter takes nothing on and nothing off. -/
theorem transmit_eases (s : State) : Eases s s.transmit := by
  have h := received_transmit s
  simp only [received, Prod.mk.injEq] at h
  exact .frame (by simp [workload, h]) (by simp)

theorem standing_transmit (s : State) : standing s.transmit ≤ standing s :=
  (transmit_eases s).standing_le fun l => by rw [show s.transmit.line l = s.line l by simp [State.line]]; exact id

theorem softReset_answers (s : State) : Answers s s.softReset := by
  unfold State.softReset
  split
  · rename_i hh
    exact ⟨hh.symm, by rw [standing_resetBlocks]; exact Nat.zero_le _, by simp [reset_live]⟩
  · rename_i hh
    refine ⟨?_, (standing_transmit _).trans ?_, ?_⟩
    · simpa [State.resetBlocks] using hh
    · exact (standing_resetBlocks s .soft s.keptScratch s.dataLevels false).le.trans (Nat.zero_le _)
    · have hm := (startAnnouncing_moves (p := False) (s := s.resetBlocks .soft s.keptScratch s.dataLevels false) False.elim).count
      rw [reset_live] at hm
      exact hm.trans (Nat.zero_le _)

theorem resetDevice_answers (s : State) (m : Message) : Answers s (s.resetDevice m) := by
  unfold State.resetDevice
  split
  · exact softReset_answers s
  · exact .of_runs (refuseFormat_eases s m) (refuseFormat_runs s m) (refuseFormat_moves False.elim m)

theorem carryOut_answers (s : State) (m : Message) : Answers s (s.carryOut m) := by
  unfold State.carryOut
  split
  · exact submit_answers s m
  · exact .of_runs (cancel_eases s m) (cancel_runs s m) (cancel_moves False.elim m)
  · exact .of_runs (flush_eases s m) (flush_runs s m) (flush_moves False.elim m)
  · exact configureWindow_answers s m
  · exact .of_runs (clearFault_eases s m) (clearFault_runs s m) (clearFault_moves False.elim m)
  · exact setupAttention_answers s m
  · exact acknowledgeAttention_answers s m
  · exact .of_runs (holdRequest_eases s m) (holdRequest_runs s m) (holdRequest_moves False.elim m)
  · exact .of_runs (resumeRequest_eases s m) (resumeRequest_runs s m) (resumeRequest_moves False.elim m)
  · exact .of_runs (setSharing_eases s m) (setSharing_runs s m) (setSharing_moves False.elim m)
  · exact .of_runs (setLink_eases s m) (setLink_runs s m) (setLink_moves False.elim m)
  · exact resetDevice_answers s m
  · exact .of_runs (queryDevice_eases s m) (queryDevice_runs s m) (queryDevice_moves False.elim m)
  · exact .of_runs (queryWindow_eases s m) (queryWindow_runs s m) (queryWindow_moves False.elim m)
  · exact .of_runs (queryTransaction_eases s m) (queryTransaction_runs s m) (queryTransaction_moves False.elim m)
  · exact .of_runs (queryAttention_eases s m) (queryAttention_runs s m) (queryAttention_moves False.elim m)
  · exact .of_runs (queryLink_eases s m) (queryLink_runs s m) (queryLink_moves False.elim m)
  · exact .of_runs (refuseFormat_eases s m) (refuseFormat_runs s m) (refuseFormat_moves False.elim m)

theorem canTake_iff : s.canTake = true ↔ s.dispatcherIdle = true ∧ s.lnk.intake ≠ [] := by
  simp [State.canTake]

/-- A message weighs more than a reply, a record and a notice of each line. -/
theorem takeRequest_lightens (h : s.canTake = true) : burden s.takeRequest < burden s ∧ s.takeRequest.holding = s.holding := by
  obtain ⟨hidle, hne⟩ := canTake_iff.mp h
  obtain ⟨m, rest, hm⟩ := List.exists_cons_of_ne_nil hne
  have htake : s.takeRequest = (s.pop rest).carryOut m := by unfold State.takeRequest; rw [hm]; exact if_pos hidle
  have hslot : s.dsp.slot = none := by
    simp only [State.dispatcherIdle, Bool.and_eq_true, decide_eq_true_eq] at hidle
    exact hidle.1
  have hpop : standing (s.pop rest) + 25 = standing s := by
    have hintake : s.lnk.intake.length = rest.length + 1 := by rw [hm]; rfl
    have hgathered : (s.pop rest).lnk.gathered = s.lnk.gathered := rfl
    have hrest : (s.pop rest).lnk.intake = rest := rfl
    have hrpt : (s.pop rest).rpt = s.rpt := rfl
    have hgranted : granted (s.pop rest) = granted s := rfl
    have hpendings : pendings (s.pop rest) = pendings s := rfl
    unfold standing
    rw [hgathered, hrest, hrpt, hgranted, hpendings, hintake]
    omega
  obtain ⟨hholding, hstanding, hlive⟩ := carryOut_answers (s.pop rest) m
  have hlines := unreported_le_eight ((s.pop rest).carryOut m)
  have hreply : (if ((s.pop rest).carryOut m).dsp.slot.isSome then 2 else 0) ≤ 2 := by split <;> omega
  have hl : (s.pop rest).live.length = s.live.length := rfl
  rw [htake]
  refine ⟨?_, hholding⟩
  unfold burden
  rw [hslot]
  omega

end

end Sys2Proof.Attention
end

section
namespace Sys2Proof.Attention

open Sys2Proof Sys2Proof.Machine Sys2Proof.Records Sys2Proof.Operations

/-! ## Every step that is due lowers the burden -/

section
variable {s t u : State} {l : Fin 8} {g : List Byte}

theorem pendings_congr (h : t.atn = s.atn) : pendings t = pendings s := by
  unfold pendings
  rw [show t.line = s.line from funext (line_congr h)]

theorem unreported_congr (h : t.atn = s.atn) : unreported t = unreported s := by
  unfold unreported
  rw [show t.line = s.line from funext (line_congr h)]

theorem live_length_congr (hwin : t.win = s.win) (hb : t.rpt.backlog = s.rpt.backlog) : t.live.length = s.live.length := by
  have hq : t.queue = s.queue := funext fun w => by rw [queue_eq, window_congr hwin, queue_eq]
  simp [State.live, State.busSide, hq, hb]

/-! ### A gathered frame -/

/-- The frame has left the receiver, and at most one message has joined the Intake Queue. -/
structure Arrives (s t : State) : Prop where
  gathered : t.lnk.gathered = s.lnk.gathered
  intake : t.lnk.intake.length ≤ s.lnk.intake.length + 1

theorem Arrives.of_received (h : received t = received s) : Arrives s t := by
  simp only [received, Prod.mk.injEq] at h
  exact ⟨h.1, by rw [h.2]; exact Nat.le_succ _⟩

theorem Arrives.congr (h : received t = received s) (k : Arrives s u) : Arrives t u := by
  simp only [received, Prod.mk.injEq] at h
  exact ⟨by rw [k.gathered, h.1], by rw [h.2]; exact k.intake⟩

theorem Arrives.then (h : Arrives s t) (k : received u = received t) : Arrives s u := by
  simp only [received, Prod.mk.injEq] at k
  exact ⟨by rw [k.1, h.gathered], by rw [k.2]; exact h.intake⟩

@[simp] theorem received_restartTimer (s : State) : received s.restartTimer = received s := by
  unfold State.restartTimer
  split <;> rfl

@[simp] theorem received_acknowledge (s : State) (a : SeqNum) : received (s.acknowledge a) = received s := by
  unfold State.acknowledge
  dsimp only
  split
  · rfl
  · exact received_restartTimer _

@[simp] theorem received_negative (s : State) (n : SeqNum) : received (s.negative n) = received s := by
  have hback : ∀ t : State, received (t.goBack n) = received t := fun t => received_restartTimer _
  unfold State.negative
  dsimp only
  split
  · exact received_acknowledge s n
  · split
    · rw [hback]; exact received_acknowledge s n
    · exact received_acknowledge s n

@[simp] theorem received_transmitAfterTakes (s : State) : received s.transmitAfterTakes = received s := by
  unfold State.transmitAfterTakes
  split
  · rfl
  · exact received_transmit s

theorem received_takeDamaged (s : State) : received s.takeDamaged = received s := by
  have hdamaged : ∀ k : Link, k.damaged.gathered = k.gathered ∧ k.damaged.intake = k.intake := fun k => by
    unfold Link.damaged
    split <;> exact ⟨rfl, rfl⟩
  unfold State.takeDamaged
  dsimp only
  rw [received_transmit]
  exact congrArg₂ Prod.mk (hdamaged _).1 (hdamaged _).2

theorem received_takeAck (s : State) (g : List Byte) : received (s.takeAck g) = received s := by
  unfold State.takeAck
  split
  · simp
  · rfl

theorem received_takeNak (s : State) (g : List Byte) : received (s.takeNak g) = received s := by
  unfold State.takeNak
  split
  · simp
  · rfl

theorem received_takeResync (s : State) : received s.takeResync = received s := by
  unfold State.takeResync
  rw [received_transmit]
  rfl

theorem sortData_arrives (s : State) (seq : SeqNum) (msg : Message) : Arrives s (s.sortData seq msg) := by
  refine ⟨?_, ?_⟩
  · unfold State.sortData
    dsimp only
    repeat' split
    all_goals rfl
  · rcases sortData_intake s seq msg with h | ⟨-, h⟩ <;> rw [h]
    · exact Nat.le_succ _
    · simp

theorem takeData_arrives (s : State) (g : List Byte) : Arrives s (s.takeData g) := by
  unfold State.takeData
  split
  · exact ((sortData_arrives _ _ _).congr (received_acknowledge s _).symm).then (received_transmitAfterTakes _)
  · exact .of_received rfl

/-- The gathered frame is acted on: only the link changes, and it holds at most one message more. -/
theorem checkFrame_arrives (hg : s.lnk.gathered = some g) :
    Arrives { s with lnk.gathered := none } s.checkFrame ∧ s.checkFrame.win = s.win ∧ s.checkFrame.bus = s.bus ∧
      s.checkFrame.atn = s.atn ∧ s.checkFrame.dsp = s.dsp ∧ s.checkFrame.rpt = s.rpt ∧ s.checkFrame.holding = s.holding := by
  unfold State.checkFrame
  rw [takeFrame_of hg rfl]
  dsimp only
  split
  · exact ⟨.of_received (received_takeDamaged _), by simp⟩
  split
  · exact ⟨takeData_arrives _ g, by simp⟩
  split
  · exact ⟨.of_received (received_takeAck _ g), by simp⟩
  split
  · exact ⟨.of_received (received_takeNak _ g), by simp⟩
  split
  · exact ⟨.of_received (received_takeResync _), by simp⟩
  · exact ⟨.of_received rfl, by simp⟩

/-- A frame weighs more than the message it brings. -/
theorem checkFrame_lightens (h : s.lnk.gathered.isSome) : burden s.checkFrame < burden s ∧ s.checkFrame.holding = s.holding := by
  obtain ⟨g, hg⟩ := Option.isSome_iff_exists.mp h
  obtain ⟨⟨hgathered, hintake⟩, hwin, hbus, hatn, hdsp, hrpt, hholding⟩ := checkFrame_arrives hg
  have hgranted : granted s.checkFrame = granted s := by unfold granted; rw [hbus]
  refine ⟨?_, hholding⟩
  unfold burden standing
  rw [hgathered, hg, hrpt, hdsp, hgranted, pendings_congr hatn, unreported_congr hatn, live_length_congr hwin (by rw [hrpt])]
  dsimp only at hintake
  simp only [Option.isSome_none, Option.isSome_some, if_true, Bool.false_eq_true, if_false]
  omega

/-! ### A report, a release -/

/-- What the Reporter and the Dispatcher hold for the host. -/
def outgoing (s : State) : Nat :=
  s.rpt.queue.length + (if s.rpt.overrun.isSome then 2 else 0) + 2 * s.live.length + (if s.dsp.slot.isSome then 2 else 0)

theorem burden_lt_of_outgoing (hlnk : received t = received s) (hbus : t.bus = s.bus) (hatn : t.atn = s.atn) (h : outgoing t < outgoing s) :
    burden t < burden s := by
  simp only [received, Prod.mk.injEq] at hlnk
  have hgranted : granted t = granted s := by unfold granted; rw [hbus]
  unfold outgoing at h
  unfold burden standing
  rw [hlnk.1, hlnk.2, hgranted, pendings_congr hatn, unreported_congr hatn]
  omega

theorem takeReport_lightens (h : s.canReport = true) : burden s.takeReport < burden s ∧ s.takeReport.holding = s.holding := by
  have hne : s.rpt.queue ≠ [] := by
    simp only [State.canReport, Bool.and_eq_true, decide_eq_true_eq] at h
    exact h.1.2
  obtain ⟨r, rest, hq⟩ := List.exists_cons_of_ne_nil hne
  have hparts : received s.takeReport = received s ∧ s.takeReport.rpt.queue = rest ∧ s.takeReport.rpt.overrun = s.rpt.overrun ∧
      s.takeReport.rpt.backlog = s.rpt.backlog := by
    unfold State.takeReport
    rw [if_pos h, hq]
    exact ⟨received_transmit _, by simp⟩
  obtain ⟨hlnk, hqueue, hoverrun, hbacklog⟩ := hparts
  refine ⟨burden_lt_of_outgoing hlnk (by simp) (by simp) ?_, by simp⟩
  have hdsp : s.takeReport.dsp = s.dsp := by simp
  unfold outgoing
  rw [hqueue, hoverrun, hdsp, live_length_congr (by simp) hbacklog, hq, List.length_cons]
  omega

theorem endRelease_lightens (h : s.releaseOver = true) : burden s.endRelease < burden s ∧ s.endRelease.holding = s.holding := by
  have hgranted : granted s = true := by
    unfold State.releaseOver at h
    unfold granted
    split at h
    · cases h
    · rename_i r hr
      rw [hr]
      exact (Bool.and_eq_true_iff.mp h).1
  have hended : granted s.endRelease = false := rfl
  obtain ⟨hwin, -, -, hatn, hdsp, hrpt, hlnk, -, hholding, -⟩ := endRelease_frame s
  refine ⟨?_, hholding⟩
  unfold burden standing
  rw [hlnk, hrpt, hdsp, hgranted, hended, pendings_congr hatn, unreported_congr hatn, live_length_congr hwin (by rw [hrpt])]
  simp only [if_true, Bool.false_eq_true, if_false]
  omega

/-! ### A recognised change -/

/-- The pending change and the outstanding flag of a line. -/
def notices (x : Line) : Option (Bool × Nat) × Bool := (x.pendingChange, x.outstanding)

theorem notices_recordEvent (s : State) (l k : Fin 8) : notices ((s.recordEvent l).line k) = notices (s.line k) := by
  by_cases hk : k = l
  · subst k
    unfold State.recordEvent State.giveStamp
    dsimp only
    repeat' split
    all_goals simp [notices]
  · rw [line_recordEvent_ne hk]

theorem notices_route (s : State) (l k : Fin 8) : notices ((s.route l).line k) = notices (s.line k) := by
  have h := (route_consumes s l).settings k
  exact congrArg₂ Prod.mk (pendingChange_of_settings h) (outstanding_of_settings h)

theorem notices_recognise (s : State) (l : Fin 8) (level : Bool) (k : Fin 8) :
    notices ((s.recognise l level).line k) = notices ((s.setLine l ((s.line l).recognise level)).line k) := by
  rcases recognise_eq s l level with e | e <;> rw [e, notices_route]
  rw [notices_recordEvent]

theorem recognise_eases (s : State) (l : Fin 8) (level : Bool) : Eases s (s.recognise l level) := by
  have hset : Eases s (s.setLine l ((s.line l).recognise level)) := .frame rfl rfl
  rcases recognise_eq s l level with e | e <;> rw [e]
  · exact hset.trans (routeUpTo_eases l _ _)
  · have hrecord : ∀ t : State, Eases t (t.recordEvent l) := fun t => .frame (by simp [workload]) (by simp)
    exact hset.trans ((hrecord _).trans (routeUpTo_eases l _ _))

theorem recogniseLine_lightens {n : Nat} (h : (s.line l).changeDue n = true) :
    burden (s.recogniseLine l) < burden s ∧ (s.recogniseLine l).holding = s.holding := by
  obtain ⟨level, since, hp⟩ : ∃ level since, (s.line l).pendingChange = some (level, since) := by
    unfold Line.changeDue at h
    split at h
    · cases h
    · exact ⟨_, _, ‹_›⟩
  have hrec : s.recogniseLine l = (s.reach (since + Config.us (s.line l).filter)).recognise l level := by
    unfold State.recogniseLine
    rw [hp]
  have hlive : (s.recogniseLine l).live.length ≤ s.live.length := (recogniseLine_moves (p := False) False.elim l).count
  rw [hrec] at hlive ⊢
  set t := s.reach (since + Config.us (s.line l).filter) with ht
  have hnotices := notices_recognise t l level
  have hl : (t.setLine l ((t.line l).recognise level)).line l = (s.line l).recognise level := by rw [line_setLine_self]; rfl
  have hothers : ∀ k, k ≠ l → notices ((t.recognise l level).line k) = notices (s.line k) := fun k hk => by
    rw [hnotices, line_setLine_ne t _ hk]; rfl
  have hself : notices ((t.recognise l level).line l) = (none, (s.line l).outstanding) := by rw [hnotices, hl]; rfl
  have hpending : ∀ k, ((t.recognise l level).line k).pendingChange.isSome → (s.line k).pendingChange.isSome := fun k => by
    by_cases hk : k = l
    · subst k; rw [show ((t.recognise l level).line l).pendingChange = none from congrArg Prod.fst hself]; simp
    · rw [show ((t.recognise l level).line k).pendingChange = _ from congrArg Prod.fst (hothers k hk)]; exact id
  have hfewer : pendings (t.recognise l level) < pendings s :=
    pendings_lt hpending (by rw [hp]; rfl) (congrArg Prod.fst hself)
  have hunreported : unreported (t.recognise l level) = unreported s := by
    have : ∀ k, ((t.recognise l level).line k).outstanding = (s.line k).outstanding := fun k => by
      by_cases hk : k = l
      · subst k; exact congrArg Prod.snd hself
      · exact congrArg Prod.snd (hothers k hk)
    simp [unreported, this]
  have he : Eases s (t.recognise l level) := Eases.trans (t := t) (.frame rfl rfl) (recognise_eases t l level)
  have hgranted : granted (t.recognise l level) = granted s := by simp [granted, ht]
  have hw := he.workload
  simp only [workload, Prod.mk.injEq] at hw
  obtain ⟨hgathered, hintake, hqueue, hoverrun, hholding⟩ := hw
  refine ⟨?_, hholding⟩
  have hdsp : (t.recognise l level).dsp = s.dsp := by simp [ht]
  unfold burden standing
  rw [hgathered, hintake, hqueue, hoverrun, hgranted, hunreported, hdsp]
  omega

/-! ### An admission -/

theorem admittedSource_cases (h : s.sourceWaits = true) :
    (s.admittedSource = some .reply ∧ s.dsp.slot.isSome) ∨ (s.admittedSource = some .completion ∧ s.rpt.backlog ≠ []) ∨
      (s.admittedSource = some .shareOverrun ∧ s.rpt.overrun.isSome) ∨ (s.admittedSource = some .attention ∧ s.anyEligible = true) := by
  simp only [State.sourceWaits, Bool.or_eq_true, decide_eq_true_eq] at h
  unfold State.admittedSource
  split
  · exact .inr (.inr (.inr ⟨rfl, (‹_ ∧ _›).2⟩))
  split
  · exact .inl ⟨rfl, ‹_›⟩
  split
  · exact .inr (.inl ⟨rfl, ‹_›⟩)
  split
  · exact .inr (.inr (.inl ⟨rfl, ‹_›⟩))
  split
  · exact .inr (.inr (.inr ⟨rfl, ‹_›⟩))
  · simp_all

theorem admitReply_lightens (h : s.dsp.slot.isSome) : burden s.admitReply < burden s ∧ s.admitReply.holding = s.holding := by
  obtain ⟨r, hr⟩ := Option.isSome_iff_exists.mp h
  have hparts : s.admitReply.rpt.queue.length = s.rpt.queue.length + 1 ∧ s.admitReply.rpt.overrun = s.rpt.overrun ∧
      s.admitReply.rpt.backlog = s.rpt.backlog ∧ s.admitReply.dsp.slot = none := by
    unfold State.admitReply
    rw [hr]
    simp [State.pushReport, State.countStarvation]
  obtain ⟨hqueue, hoverrun, hbacklog, hslot⟩ := hparts
  refine ⟨burden_lt_of_outgoing (by simp [received]) (by simp) (by simp) ?_, by simp⟩
  unfold outgoing
  rw [hqueue, hoverrun, hslot, hr, live_length_congr (by simp) hbacklog]
  simp only [Option.isSome_none, Option.isSome_some, if_true, Bool.false_eq_true, if_false]
  omega

theorem admitCompletion_lightens (h : s.rpt.backlog ≠ []) :
    burden s.admitCompletion < burden s ∧ s.admitCompletion.holding = s.holding := by
  obtain ⟨r, rest, hr⟩ := List.exists_cons_of_ne_nil h
  have hparts : s.admitCompletion.rpt.queue.length = s.rpt.queue.length + 1 ∧ s.admitCompletion.rpt.overrun = s.rpt.overrun ∧
      s.admitCompletion.live = s.busSide ++ rest := by
    unfold State.admitCompletion
    rw [hr]
    exact ⟨by simp [State.pushReport, State.countStarvation], rfl, rfl⟩
  obtain ⟨hqueue, hoverrun, hlive⟩ := hparts
  have hbefore : s.live.length = (s.busSide ++ rest).length + 1 := by
    rw [State.live, hr, List.length_append, List.length_append, List.length_cons]
    rfl
  have hdsp : s.admitCompletion.dsp = s.dsp := by simp
  refine ⟨burden_lt_of_outgoing (by simp [received]) (by simp) (by simp) ?_, by simp⟩
  unfold outgoing
  rw [hqueue, hoverrun, hdsp, hlive, hbefore]
  omega

theorem admitOverrun_lightens (h : s.rpt.overrun.isSome) : burden s.admitOverrun < burden s ∧ s.admitOverrun.holding = s.holding := by
  obtain ⟨o, ho⟩ := Option.isSome_iff_exists.mp h
  have hparts : s.admitOverrun.rpt.queue.length = s.rpt.queue.length + 1 ∧ s.admitOverrun.rpt.overrun = none ∧
      s.admitOverrun.rpt.backlog = s.rpt.backlog := by
    unfold State.admitOverrun
    rw [ho]
    simp [State.pushReport, State.countStarvation]
  obtain ⟨hqueue, hoverrun, hbacklog⟩ := hparts
  have hdsp : s.admitOverrun.dsp = s.dsp := by simp
  refine ⟨burden_lt_of_outgoing (by simp [received]) (by simp) (by simp) ?_, by simp⟩
  unfold outgoing
  rw [hqueue, hoverrun, ho, hdsp, live_length_congr (by simp) hbacklog]
  simp only [Option.isSome_none, Option.isSome_some, if_true, Bool.false_eq_true, if_false]
  omega

theorem bestLine_of_anyEligible (h : s.anyEligible = true) : ∃ l, s.bestLine = some l ∧ (s.line l).eligible = true := by
  obtain ⟨k, -, hk⟩ := List.any_eq_true.mp h
  rcases pickLine_cases (fun l => (s.line l).eligible) (betterLine s) with ⟨-, hnone⟩ | hsome
  · rw [hnone k] at hk; cases hk
  · exact hsome

theorem outstanding_of_eligible {x : Line} (h : x.eligible = true) : x.outstanding = false := by
  simp only [Line.eligible, Bool.and_eq_true, Bool.not_eq_true'] at h
  exact h.1.2

theorem notices_takeNotice (s : State) (l k : Fin 8) :
    notices ((s.takeNotice l).line k) = if k = l then ((s.line l).pendingChange, true) else notices (s.line k) := by
  have h := settings_lowerCount (s.setLine l { s.line l with lost := false, outstanding := true }) l 0 k
  unfold State.takeNotice
  rw [show notices _ = _ from congrArg₂ Prod.mk (pendingChange_of_settings h) (outstanding_of_settings h), line_setLine]
  split <;> rfl

theorem admitAttention_lightens (h : s.anyEligible = true) :
    burden s.admitAttention < burden s ∧ s.admitAttention.holding = s.holding := by
  obtain ⟨l, hl, helig⟩ := bestLine_of_anyEligible h
  have hline : ∀ k, s.admitAttention.line k = ((s.pushReport ((s.line l).notice l)).takeNotice l).line k := fun k => by
    unfold State.admitAttention
    rw [hl]
    rfl
  have hnotices : ∀ k, notices (s.admitAttention.line k) = if k = l then ((s.line l).pendingChange, true) else notices (s.line k) :=
    fun k => by rw [hline, notices_takeNotice]; rfl
  have hpending : ∀ k, (s.admitAttention.line k).pendingChange = (s.line k).pendingChange := fun k => by
    have := congrArg Prod.fst (hnotices k)
    by_cases hk : k = l
    · subst k; simpa [notices] using this
    · simpa [notices, hk] using this
  have houtstanding : ∀ k, (s.admitAttention.line k).outstanding = if k = l then true else (s.line k).outstanding := fun k => by
    have := congrArg Prod.snd (hnotices k)
    by_cases hk : k = l
    · subst k; simpa [notices] using this
    · simpa [notices, hk] using this
  have hpendings : pendings s.admitAttention = pendings s := by unfold pendings; simp only [hpending]
  have hunreported : unreported s.admitAttention < unreported s := by
    refine unreported_lt (l := l) (fun k => ?_) (outstanding_of_eligible helig) (by rw [houtstanding, if_pos rfl])
    rw [houtstanding]
    split
    · exact fun e => nomatch e
    · exact id
  have hqueue : s.admitAttention.rpt.queue.length = s.rpt.queue.length + 1 := by
    unfold State.admitAttention
    rw [hl]
    simp [State.pushReport]
  have hrpt : s.admitAttention.rpt.overrun = s.rpt.overrun ∧ s.admitAttention.rpt.backlog = s.rpt.backlog := by
    unfold State.admitAttention
    rw [hl]
    simp [State.pushReport]
  obtain ⟨hwin, -, -, hbus, hdsp, hlnk, -, hholding, -⟩ := admitAttention_frame s
  obtain ⟨hoverrun, hbacklog⟩ := hrpt
  have hgranted : granted s.admitAttention = granted s := by unfold granted; rw [hbus]
  refine ⟨?_, hholding⟩
  unfold burden standing
  rw [hlnk, hoverrun, hdsp, hqueue, hgranted, hpendings, live_length_congr hwin hbacklog]
  omega

theorem admitOne_lightens (h : s.canAdmit = true) : burden s.admitOne < burden s ∧ s.admitOne.holding = s.holding := by
  obtain ⟨hfree, hwaits⟩ := Bool.and_eq_true_iff.mp h
  unfold State.admitOne
  rw [if_pos hfree]
  rcases admittedSource_cases hwaits with ⟨e, hsrc⟩ | ⟨e, hsrc⟩ | ⟨e, hsrc⟩ | ⟨e, hsrc⟩ <;> rw [e]
  · exact admitReply_lightens hsrc
  · exact admitCompletion_lightens hsrc
  · exact admitOverrun_lightens hsrc
  · exact admitAttention_lightens hsrc

/-! ### What is due -/

/-- A step that is due has something to act on. -/
theorem takeDue_lightens {n : Nat} {d : Due} (h : s.dueBy n = some d) : burden (s.takeDue d) < burden s ∧ (s.takeDue d).holding = s.holding := by
  unfold State.dueBy at h
  split at h
  · cases h; exact checkFrame_lightens ‹_›
  split at h
  · cases h; exact takeRequest_lightens ‹_›
  split at h
  · cases h; exact admitOne_lightens ‹_›
  split at h
  · cases h; exact takeReport_lightens ‹_›
  split at h
  · cases h; exact recogniseLine_lightens (changeDue_of_dueLine ‹_›)
  split at h
  · split at h
    · cases h; exact recogniseLine_lightens (changeDue_of_dueLine ‹_›)
    · cases h; exact endRelease_lightens ‹_›
  · obtain ⟨l, hl, rfl⟩ := Option.map_eq_some_iff.mp h
    exact recogniseLine_lightens (changeDue_of_dueLine hl)

end

end Sys2Proof.Attention
end

section
namespace Sys2Proof.Attention

open Sys2Proof Sys2Proof.Machine Sys2Proof.Records Sys2Proof.Operations

/-! ## Taking the steps that are due (log entry 1) -/

section
variable {s t : State} {d e : Due} {n m : Nat} {c : Instr}

/-- Nothing is due where no burden is left. -/
theorem dueBy_of_burden_zero (h : burden s = 0) (n : Nat) : s.dueBy n = none := by
  cases hd : s.dueBy n with
  | none => rfl
  | some d => have := (takeDue_lightens hd).1; omega

/-- More steps than the burden allows are not taken. -/
theorem drainTo_of_burden_le (moment : State → Nat) (hn : burden s ≤ n) (hm : burden s ≤ m) :
    State.drainTo moment n s = State.drainTo moment m s := by
  induction n generalizing s m with
  | zero =>
    have hnone := dueBy_of_burden_zero (Nat.le_zero.mp hn) (moment s)
    rw [drainTo_of_dueBy_none hnone, drainTo_of_dueBy_none hnone]
  | succ n ih =>
    cases hd : s.dueBy (moment s) with
    | none => rw [drainTo_of_dueBy_none hd, drainTo_of_dueBy_none hd]
    | some d =>
      have hlight := (takeDue_lightens hd).1
      cases m with
      | zero => omega
      | succ m =>
        simp only [State.drainTo, hd]
        exact ih (by omega) (by omega)

theorem before_of_dueBy {effect : State → State} (h : s.dueBy (effect s).now = some d) : s.before effect = (s.takeDue d).before effect := by
  have hlight := (takeDue_lightens h).1
  have hbound := burden_le_dueBound s
  obtain ⟨n, hn⟩ : ∃ n, s.dueBound = n + 1 := Nat.exists_eq_add_one.mpr (by omega)
  unfold State.before
  rw [hn]
  simp only [State.drainTo, h]
  exact drainTo_of_burden_le _ (by omega) (burden_le_dueBound _)

theorem upToWithin_of_burden_le (hn : burden s ≤ n) (hm : burden s ≤ m) : State.upToWithin d n s = State.upToWithin d m s := by
  induction n generalizing s m with
  | zero =>
    have hnone := dueBy_of_burden_zero (Nat.le_zero.mp hn) (s.takeDue d).now
    cases m with
    | zero => rfl
    | succ m => simp only [State.upToWithin, hnone]
  | succ n ih =>
    cases he : s.dueBy (s.takeDue d).now with
    | none => cases m <;> simp only [State.upToWithin, he]
    | some e =>
      have hlight := (takeDue_lightens he).1
      cases m with
      | zero => omega
      | succ m =>
        simp only [State.upToWithin, he]
        split
        · rfl
        · exact ih (by omega) (by omega)

theorem upTo_of_dueBy_other (h : s.dueBy (s.takeDue d).now = some e) (hne : e ≠ d) : s.upTo d = (s.takeDue e).upTo d := by
  have hlight := (takeDue_lightens h).1
  have hbound := burden_le_dueBound s
  obtain ⟨n, hn⟩ : ∃ n, s.dueBound = n + 1 := Nat.exists_eq_add_one.mpr (by omega)
  unfold State.upTo
  rw [hn]
  simp only [State.upToWithin, h, if_neg hne]
  exact upToWithin_of_burden_le (by omega) (burden_le_dueBound _)

/-- Induction along the steps that are due before an event. -/
theorem before_induction (effect : State → State) {p : State → Prop} (hrest : ∀ s, s.dueBy (effect s).now = none → p s)
    (hstep : ∀ s d, s.dueBy (effect s).now = some d → p (s.takeDue d) → p s) (s : State) : p s := by
  induction h : burden s using Nat.strong_induction_on generalizing s with
  | _ n ih =>
    cases hd : s.dueBy (effect s).now with
    | none => exact hrest s hd
    | some d => exact hstep s d hd (ih _ (h ▸ (takeDue_lightens hd).1) _ rfl)

theorem dueBy_before (s : State) (effect : State → State) : (s.before effect).dueBy (effect (s.before effect)).now = none := by
  induction s using before_induction effect with
  | hrest s h => rw [before_of_dueBy_none h]; exact h
  | hstep s d h ih => rw [before_of_dueBy h]; exact ih

theorem holding_before (s : State) (effect : State → State) : (s.before effect).holding = s.holding := by
  induction s using before_induction effect with
  | hrest s h => rw [before_of_dueBy_none h]
  | hstep s d h ih => rw [before_of_dueBy h, ih, (takeDue_lightens h).2]

/-- What is due at the clock as it stands is due before every event. -/
theorem before_drain (s : State) (effect : State → State) : s.drain.before effect = s.before effect := by
  induction s using before_induction id with
  | hrest s h => rw [drain_of_due_none h]
  | hstep s d h ih =>
    have hdrain : s.drain = (s.takeDue d).drain := before_of_dueBy (effect := fun t => t) h
    rw [hdrain, ih, before_of_dueBy (dueBy_of_due h _)]

/-! ## Events of the outside -/

/-- No pending change that the effect leaves is overdue: it was there before, with the same filter time, or is not over yet. -/
def Timely (effect : State → State) : Prop :=
  ∀ (s : State) (l : Fin 8) (level : Bool) (since : Nat), ((effect s).line l).pendingChange = some (level, since) →
    ((s.line l).pendingChange = some (level, since) ∧ (s.line l).filter = ((effect s).line l).filter) ∨ (effect s).now ≤ since

theorem timely_of_runs {effect : State → State} (h : ∀ s, Runs s (effect s)) : Timely effect := fun s l level since hp => by
  have hsettings := (h s).consumes.settings l
  exact .inl ⟨(pendingChange_of_settings hsettings).symm.trans hp, (filter_of_settings hsettings).symm⟩

theorem timely_sampleInput (l : Fin 8) (level : Bool) : Timely fun s => s.sampleInput l level := by
  intro s k new since
  by_cases hlevel : level = (s.line l).level
  · subst hlevel
    simp only [sampleInput_of_level, line_setLine]
    split
    · exact fun h => nomatch h
    · exact fun h => .inl ⟨h, rfl⟩
  · by_cases hp : (s.line l).pendingChange = none
    · simp only [sampleInput_of_begin hlevel hp, line_setLine]
      split
      · rintro h; cases h; exact .inr le_rfl
      · exact fun h => .inl ⟨h, rfl⟩
    · simp only [sampleInput_of_pending hlevel hp]
      exact fun h => .inl ⟨h, trivial⟩

/-- The command acts, after what is due before its effect, by `finish`, which faults or leads to the effect. -/
structure ActsAs (c : Instr) (effect : State → State) (finish : State → Host.Outcome State Fault Refusal) : Prop where
  timely : Timely effect
  next : ∀ b t, finish b = .next t → t = effect b
  exec : ∀ s, s.holding = false → exec c s = finish (s.before effect)

section
variable {effect : State → State} {finish : State → Host.Outcome State Fault Refusal}

theorem event_of_not_holding (h : s.holding = false) (effect : State → State) : s.event effect = effect (s.before effect) := by
  simp [State.event, h]

theorem ActsAs.of_event (ht : Timely effect) (h : ∀ s, s.holding = false → Machine.exec c s = .next (s.event effect)) :
    ActsAs c effect fun b => .next (effect b) :=
  ⟨ht, fun _ _ e => (Host.Outcome.next.inj e).symm, fun s hh => by rw [h s hh, event_of_not_holding hh]⟩

theorem ActsAs.exec_drain (h : ActsAs c effect finish) (hh : s.holding = false) : Machine.exec c s = Machine.exec c s.drain := by
  rw [h.exec s hh, h.exec s.drain ((holding_before s _).trans hh), before_drain]

theorem ActsAs.exec_takeDue (h : ActsAs c effect finish) (hh : s.holding = false) (hd : s.dueBy (effect s).now = some d) :
    Machine.exec c s = Machine.exec c (s.takeDue d) := by
  rw [h.exec s hh, h.exec _ ((takeDue_lightens hd).2.trans hh), before_of_dueBy hd]

/-- The last moment of a change that is not due before `n` does not lie before it (R128). -/
theorem le_of_not_changeDue {x : Line} {level : Bool} {since : Nat} (hp : x.pendingChange = some (level, since))
    (h : x.changeDue n = false) : n ≤ since + 40 * (x.filter + 1) := by
  simp only [Line.changeDue, hp, Config.us, Config.ticksPerUs, Bool.or_eq_false_iff] at h
  have hlast := of_decide_eq_false h.2
  omega

theorem ActsAs.now_le (h : ActsAs c effect finish) (hh : s.holding = false) (ht : Machine.exec c s = .next t) {l : Fin 8} {level : Bool}
    {since : Nat} (hp : (t.line l).pendingChange = some (level, since)) : t.now ≤ since + 40 * ((t.line l).filter + 1) := by
  have hnext : t = effect (s.before effect) := h.next _ _ ((h.exec s hh).symm.trans ht)
  obtain ⟨-, -, -, -, -, -, hline⟩ := dueBy_eq_none_iff.mp (dueBy_before s effect)
  rw [hnext] at hp ⊢
  rcases h.timely _ l level since hp with ⟨hbefore, hfilter⟩ | hle
  · rw [← hfilter]
    exact le_of_not_changeDue hbefore (dueLine_eq_none_iff.mp hline l)
  · omega

end

/-! ### Each event's effect -/

theorem grant_acts (starts : Bool) : ActsAs (.grant starts) (fun t => t.makeChoice starts) fun b => .next (b.makeChoice starts) :=
  .of_event (timely_of_runs fun t => makeChoice_runs t starts) fun _ _ => rfl

theorem gapError_acts : ActsAs .gapError State.takeGap fun b => .next b.takeGap := .of_event (timely_of_runs takeGap_runs) fun _ _ => rfl

theorem ackRequested_acts : ActsAs .ackRequested State.requestAck fun b => .next b.requestAck :=
  .of_event (timely_of_runs requestAck_runs) fun _ _ => rfl

theorem frameTransmitEnd_acts : ActsAs .frameTransmitEnd State.endFrame fun b => .next b.endFrame :=
  .of_event (timely_of_runs endFrame_runs) fun _ _ => rfl

theorem retransmissionTimeout_acts : ActsAs .retransmissionTimeout State.expireRetransmission fun b => .next b.expireRetransmission :=
  .of_event (timely_of_runs expireRetransmission_runs) fun _ _ => rfl

theorem announceTimer_acts : ActsAs .announceTimer State.expireAnnounce fun b => .next b.expireAnnounce :=
  .of_event (timely_of_runs expireAnnounce_runs) fun _ _ => rfl

theorem pollTimerExpiry_acts (w : Fin 6) : ActsAs (.pollTimerExpiry w) (fun t => t.expirePoll w) fun b => .next (b.expirePoll w) :=
  .of_event (timely_of_runs fun t => expirePoll_runs t w) fun _ _ => rfl

theorem delayExpiry_acts (w : Fin 6) : ActsAs (.delayExpiry w) (fun t => t.expireDelay w) fun b => .next (b.expireDelay w) :=
  .of_event (timely_of_runs fun t => expireDelay_runs t w) fun _ _ => rfl

theorem waitTimeout_acts (w : Fin 6) : ActsAs (.waitTimeout w) (fun t => t.expireWait w) fun b => .next (b.expireWait w) :=
  .of_event (timely_of_runs fun t => expireWait_runs t w) fun _ _ => rfl

theorem recoveryEnd_acts (w : Fin 6) : ActsAs (.recoveryEnd w) (fun t => t.endRecovery w) fun b => .next (b.endRecovery w) :=
  .of_event (timely_of_runs fun t => endRecovery_runs t w) fun _ _ => rfl

theorem accessCompletion_acts (data : Word) (rdy : List Bool) :
    ActsAs (.accessCompletion data rdy) (fun t => t.finishPin data rdy) fun b => .next (b.finishPin data rdy) :=
  .of_event (timely_of_runs fun t => finishPin_runs t data rdy) fun _ _ => rfl

theorem readyTimeout_acts : ActsAs .readyTimeout State.finishTimeout fun b => .next b.finishTimeout :=
  .of_event (timely_of_runs finishTimeout_runs) fun _ _ => rfl

theorem bgntAssertion_acts : ActsAs .bgntAssertion State.assertBgnt fun b => .next b.assertBgnt :=
  .of_event (timely_of_runs assertBgnt_runs) fun _ _ => rfl

theorem shareOverrunRaise_acts : ActsAs .shareOverrunRaise State.overrunRelease fun b => .next b.overrunRelease :=
  .of_event (timely_of_runs overrunRelease_runs) fun _ _ => rfl

theorem byteReceived_acts (b : Byte) : ActsAs (.byteReceived b) (fun t => { t with lnk := t.lnk.receive b t.now })
    fun t => .next { t with lnk := t.lnk.receive b t.now } :=
  .of_event (timely_of_runs fun t => receive_runs t b) fun _ _ => rfl

theorem attentionInputChange_acts (l : Fin 8) (level : Bool) :
    ActsAs (.attentionInputChange l level) (fun t => t.sampleInput l level) fun b => .next (b.sampleInput l level) :=
  .of_event (timely_sampleInput l level) fun _ _ => rfl

/-- A unit outside scratch memory is a fault (R63). -/
theorem scratchAccessCompletion_acts : ActsAs .scratchAccessCompletion State.finishScratch fun b =>
    if b.scratchAccess.all fun a => scratchInside (b.window a.window).profile.width a.addr then .next b.finishScratch
    else .fault .scratchOutside := by
  refine ⟨timely_of_runs finishScratch_runs, fun b t h => ?_, fun s hh => ?_⟩
  · split at h <;> cases h
    rfl
  · show execScratchAccessCompletion s = _
    unfold execScratchAccessCompletion
    rw [hh]
    rfl

theorem breqAsserted_acts : ActsAs .breqAsserted State.request fun b => .next b.request :=
  .of_event (timely_of_runs request_runs) fun s hh => by
    show execBreqAsserted s = _
    unfold execBreqAsserted
    rw [hh]
    rfl

theorem breqDeasserted_acts : ActsAs .breqDeasserted State.withdrawRequest fun b => .next b.withdrawRequest :=
  .of_event (timely_of_runs withdrawRequest_runs) fun s hh => by
    show execBreqDeasserted s = _
    unfold execBreqDeasserted
    rw [hh]
    rfl

/-- Every event of the outside acts by its effect, after what is due before it. -/
theorem exists_actsAs_of_outside (h : c.outside = true) : ∃ effect finish, ActsAs c effect finish := by
  cases c with
  | gapError => exact ⟨_, _, gapError_acts⟩
  | ackRequested => exact ⟨_, _, ackRequested_acts⟩
  | frameTransmitEnd => exact ⟨_, _, frameTransmitEnd_acts⟩
  | retransmissionTimeout => exact ⟨_, _, retransmissionTimeout_acts⟩
  | announceTimer => exact ⟨_, _, announceTimer_acts⟩
  | shareOverrunRaise => exact ⟨_, _, shareOverrunRaise_acts⟩
  | grant starts => exact ⟨_, _, grant_acts starts⟩
  | recoveryEnd w => exact ⟨_, _, recoveryEnd_acts w⟩
  | accessCompletion data rdy => exact ⟨_, _, accessCompletion_acts data rdy⟩
  | scratchAccessCompletion => exact ⟨_, _, scratchAccessCompletion_acts⟩
  | readyTimeout => exact ⟨_, _, readyTimeout_acts⟩
  | pollTimerExpiry w => exact ⟨_, _, pollTimerExpiry_acts w⟩
  | delayExpiry w => exact ⟨_, _, delayExpiry_acts w⟩
  | waitTimeout w => exact ⟨_, _, waitTimeout_acts w⟩
  | attentionInputChange l level => exact ⟨_, _, attentionInputChange_acts l level⟩
  | breqAsserted => exact ⟨_, _, breqAsserted_acts⟩
  | breqDeasserted => exact ⟨_, _, breqDeasserted_acts⟩
  | byteReceived b => exact ⟨_, _, byteReceived_acts b⟩
  | bgntAssertion => exact ⟨_, _, bgntAssertion_acts⟩
  | _ => cases h

theorem event_of_holding (h : s.holding = true) (effect : State → State) : s.event effect = s := by
  simp [State.event, h]

/-- In the holding state BREQ alone is followed (R122). -/
theorem exec_of_holding (hc : c.outside = true) (h : s.holding = true) :
    exec c s = .next { s with breq := if c = .breqAsserted then true else if c = .breqDeasserted then false else s.breq } := by
  cases c with
  | breqAsserted =>
    show execBreqAsserted s = _
    unfold execBreqAsserted
    rw [h]
    rfl
  | breqDeasserted =>
    show execBreqDeasserted s = _
    unfold execBreqDeasserted
    rw [h]
    rfl
  | scratchAccessCompletion =>
    show execScratchAccessCompletion s = _
    exact if_pos h
  | gapError | ackRequested | frameTransmitEnd | retransmissionTimeout | announceTimer | shareOverrunRaise | grant | recoveryEnd
    | accessCompletion | readyTimeout | pollTimerExpiry | delayExpiry | waitTimeout | attentionInputChange | byteReceived
    | bgntAssertion => exact congrArg Host.Outcome.next (event_of_holding h _)
  | _ => cases hc

/-! ## Rows that are a step due inside an event -/

/-- The row of a step that is due acts once what is due before it has been taken. -/
theorem exec_of_upTo (hrow : ∀ s : State, s.holding = false → exec c s = .next ((s.upTo d).takeDue d)) (hh : s.holding = false) :
    (s.dueBy (s.takeDue d).now = some d → exec c s = .next (s.takeDue d)) ∧
      ∀ e, s.dueBy (s.takeDue d).now = some e → e ≠ d → exec c s = exec c (s.takeDue e) := by
  refine ⟨fun h => ?_, fun e h hne => ?_⟩
  · rw [hrow s hh, upTo_of_dueBy h]
  · rw [hrow s hh, hrow _ ((takeDue_lightens h).2.trans hh), upTo_of_dueBy_other h hne]

theorem exec_changeRecognised (l : Fin 8) (hh : s.holding = false) :
    exec (.changeRecognised l) s = .next ((s.upTo (.change l)).takeDue (.change l)) := by
  show execChangeRecognised l s = _
  unfold execChangeRecognised
  rw [hh]
  rfl

end

/-- Settles O3: every step that is due lowers a burden that the bound of `State.before` contains, so that taking one of them first
changes nothing. -/
theorem eventFollowsDueSteps : Obligations.EventFollowsDueSteps := by
  refine ⟨fun c s hc => ⟨fun hh => ?_, exec_of_holding hc⟩, fun s w starts data rdy hh row hrow d hd => ?_,
    fun c s t hc hh ht l level since hp => ?_, fun s l hh row hrow => ?_⟩
  · obtain ⟨effect, finish, h⟩ := exists_actsAs_of_outside hc
    exact h.exec_drain hh
  · have hacts : ∃ finish, ActsAs row.1 row.2 finish := by
      simp only [List.mem_cons, List.not_mem_nil, or_false] at hrow
      rcases hrow with rfl | rfl | rfl | rfl | rfl | rfl | rfl | rfl | rfl | rfl | rfl | rfl | rfl | rfl | rfl | rfl
      exacts [⟨_, grant_acts starts⟩, ⟨_, gapError_acts⟩, ⟨_, ackRequested_acts⟩, ⟨_, frameTransmitEnd_acts⟩,
        ⟨_, retransmissionTimeout_acts⟩, ⟨_, announceTimer_acts⟩, ⟨_, pollTimerExpiry_acts w⟩, ⟨_, delayExpiry_acts w⟩,
        ⟨_, waitTimeout_acts w⟩, ⟨_, recoveryEnd_acts w⟩, ⟨_, accessCompletion_acts data rdy⟩, ⟨_, scratchAccessCompletion_acts⟩,
        ⟨_, readyTimeout_acts⟩, ⟨_, bgntAssertion_acts⟩, ⟨_, breqDeasserted_acts⟩, ⟨_, shareOverrunRaise_acts⟩]
    obtain ⟨finish, h⟩ := hacts
    exact h.exec_takeDue hh hd
  · obtain ⟨effect, finish, h⟩ := exists_actsAs_of_outside hc
    exact h.now_le hh ht hp
  · simp only [List.mem_cons, List.not_mem_nil, or_false] at hrow
    rcases hrow with rfl | rfl | rfl
    · exact exec_of_upTo (fun _ _ => rfl) hh
    · exact exec_of_upTo (fun _ _ => rfl) hh
    · exact exec_of_upTo (fun _ h => exec_changeRecognised l h) hh

end Sys2Proof.Attention
end

section
namespace Sys2Proof.Requests

open Sys2Proof Sys2Proof.Machine

/-! PROOF. Requests, replies and the capacities of the link (O2, O9, O22, O23, O24, O35, O36).

The capacities of O9 are five numbers and the link state (`Occupancy`). The Bus Engine, the Scheduler, the Attention Monitor and the
requests leave the Report Queue and the starvation counter as they are, one simp lemma for each that writes a part of the Reporter, and
the transmitter leaves every number; what is left are the few operations of Link Controller and Reporter that a capacity guards. -/

/-! ## What leaves the Report Queue and the starvation counter -/

section
variable (s : State) (l : Fin 8) (w : Fin 6) (r : Record) (a : Access)

@[simp] theorem retireHead_reports :
    (s.retireHead w r).rpt.queue = s.rpt.queue ∧ (s.retireHead w r).rpt.starvation = s.rpt.starvation := by
  simp [State.retireHead]

@[simp] theorem failHead_reports (reason : FailReason) (detail : Nat) :
    (s.failHead w r reason detail).rpt.queue = s.rpt.queue ∧
    (s.failHead w r reason detail).rpt.starvation = s.rpt.starvation := by
  unfold State.failHead
  dsimp only
  split <;> simp

@[simp] theorem wakeWaiter_reports (tag : Word) :
    (s.wakeWaiter l tag).rpt.queue = s.rpt.queue ∧ (s.wakeWaiter l tag).rpt.starvation = s.rpt.starvation := by
  unfold State.wakeWaiter
  repeat' split
  all_goals simp

@[simp] theorem deliver_reports (tag : Word) (rest : List Word) :
    (s.deliver l tag rest).rpt.queue = s.rpt.queue ∧ (s.deliver l tag rest).rpt.starvation = s.rpt.starvation := by
  simp [State.deliver]

@[simp] theorem routeUpTo_reports (n : Nat) :
    (State.routeUpTo l n s).rpt.queue = s.rpt.queue ∧ (State.routeUpTo l n s).rpt.starvation = s.rpt.starvation := by
  induction n generalizing s with
  | zero => exact ⟨rfl, rfl⟩
  | succ n ih =>
    unfold State.routeUpTo
    repeat' split
    all_goals simp [ih]

@[simp] theorem route_reports :
    (s.route l).rpt.queue = s.rpt.queue ∧ (s.route l).rpt.starvation = s.rpt.starvation := by
  simp [State.route]

@[simp] theorem register_reports (tag : Word) :
    (s.register l tag).rpt.queue = s.rpt.queue ∧ (s.register l tag).rpt.starvation = s.rpt.starvation := by
  simp [State.register]

@[simp] theorem recognise_reports (level : Bool) :
    (s.recognise l level).rpt.queue = s.rpt.queue ∧ (s.recognise l level).rpt.starvation = s.rpt.starvation := by
  unfold State.recognise
  dsimp only
  split <;> simp

@[simp] theorem settleUpTo_reports (starts : Bool) (n : Nat) (b : Boundary) :
    (State.settleUpTo starts w n b s).rpt.queue = s.rpt.queue ∧
    (State.settleUpTo starts w n b s).rpt.starvation = s.rpt.starvation := by
  induction n generalizing s b with
  | zero =>
    unfold State.settleUpTo
    dsimp only
    repeat' split
    all_goals simp
  | succ n ih =>
    unfold State.settleUpTo
    dsimp only
    repeat' split
    all_goals simp [ih]

@[simp] theorem settle_reports (starts : Bool) (b : Boundary) :
    (s.settle starts w b).rpt.queue = s.rpt.queue ∧ (s.settle starts w b).rpt.starvation = s.rpt.starvation := by
  simp [State.settle]

@[simp] theorem settleWaiting_reports :
    s.settleWaiting.rpt.queue = s.rpt.queue ∧ s.settleWaiting.rpt.starvation = s.rpt.starvation := by
  unfold State.settleWaiting
  repeat' split
  all_goals simp

@[simp] theorem answerRequest_reports :
    s.answerRequest.rpt.queue = s.rpt.queue ∧ s.answerRequest.rpt.starvation = s.rpt.starvation := by
  unfold State.answerRequest
  repeat' split
  all_goals simp

@[simp] theorem endAccess_reports (k i : Nat) (b : Boundary) :
    (s.endAccess w k i r b).rpt.queue = s.rpt.queue ∧ (s.endAccess w k i r b).rpt.starvation = s.rpt.starvation := by
  simp [State.endAccess]

@[simp] theorem takeUnit_reports (v : Word) :
    (s.takeUnit a v).rpt.queue = s.rpt.queue ∧ (s.takeUnit a v).rpt.starvation = s.rpt.starvation := by
  unfold State.takeUnit
  dsimp only
  repeat' split
  all_goals simp

@[simp] theorem completePin_reports (strobe : Nat) (data : Word) :
    (s.completePin a strobe data).rpt.queue = s.rpt.queue ∧
    (s.completePin a strobe data).rpt.starvation = s.rpt.starvation := by
  unfold State.completePin
  dsimp only
  simp

@[simp] theorem completeScratch_reports :
    (s.completeScratch a).rpt.queue = s.rpt.queue ∧ (s.completeScratch a).rpt.starvation = s.rpt.starvation := by
  unfold State.completeScratch
  dsimp only
  split <;> simp

@[simp] theorem timeoutPin_reports :
    (s.timeoutPin a).rpt.queue = s.rpt.queue ∧ (s.timeoutPin a).rpt.starvation = s.rpt.starvation := by
  unfold State.timeoutPin
  cases a.kind <;> dsimp only <;> repeat' split
  all_goals simp

@[simp] theorem grantTo_reports (starts : Bool) :
    (s.grantTo starts w).rpt.queue = s.rpt.queue ∧ (s.grantTo starts w).rpt.starvation = s.rpt.starvation := by
  unfold State.grantTo
  split <;> simp

@[simp] theorem raiseOverrun_reports (limit : Nat) (window : Option (Fin 6)) :
    (s.raiseOverrun limit window).rpt.queue = s.rpt.queue ∧
    (s.raiseOverrun limit window).rpt.starvation = s.rpt.starvation := by
  unfold State.raiseOverrun
  split <;> exact ⟨rfl, rfl⟩

@[simp] theorem cancelFound_reports :
    (s.cancelFound w r).rpt.queue = s.rpt.queue ∧ (s.cancelFound w r).rpt.starvation = s.rpt.starvation := by
  unfold State.cancelFound
  repeat' split
  all_goals simp [State.requestAbort, State.cancelNow]

@[simp] theorem cancelFound_lnk : (s.cancelFound w r).lnk = s.lnk := by
  unfold State.cancelFound
  repeat' split
  all_goals simp [State.requestAbort, State.cancelNow]

@[simp] theorem flushWindow_reports :
    (s.flushWindow w).rpt.queue = s.rpt.queue ∧ (s.flushWindow w).rpt.starvation = s.rpt.starvation := by
  unfold State.flushWindow
  dsimp only
  repeat' split
  all_goals simp

@[simp] theorem flushWindow_lnk : (s.flushWindow w).lnk = s.lnk := by
  unfold State.flushWindow
  dsimp only
  repeat' split
  all_goals simp

end

/-! ## The numbers that have capacities -/

/-- What R143, R164, R168, R182 and R184 bound, with the link state on which the bound of the retry count depends. -/
structure Occupancy where
  reports : Nat
  replay : Nat
  intake : Nat
  starvation : Nat
  retry : Nat
  link : LinkState

/-- How full the part is. -/
def occupancy (s : State) : Occupancy where
  reports := s.rpt.queue.length
  replay := s.lnk.replay.length
  intake := s.lnk.intake.length
  starvation := s.rpt.starvation
  retry := s.lnk.retry
  link := s.lnk.state

/-- The capacities themselves. -/
structure Occupancy.Within (x : Occupancy) : Prop where
  reports : x.reports ≤ 32
  replay : x.replay ≤ 4
  intake : x.intake ≤ 8
  starvation : x.starvation ≤ 4
  retry : x.retry ≤ 8
  up : x.link = .up → x.retry < 8

theorem linkBounded_iff (s : State) : s.linkBounded = true ↔ (occupancy s).Within := by
  simp only [State.linkBounded, Bool.and_eq_true, decide_eq_true_eq]
  constructor
  · rintro ⟨⟨⟨⟨⟨hq, hr⟩, hi⟩, hs⟩, hc⟩, hu⟩
    exact ⟨hq, hr, hi, hs, hc, hu⟩
  · rintro ⟨hq, hr, hi, hs, hc, hu⟩
    exact ⟨⟨⟨⟨⟨hq, hr⟩, hi⟩, hs⟩, hc⟩, hu⟩

/-- From the one state to the other the capacities are kept. -/
def Keeps (s t : State) : Prop := (occupancy s).Within → (occupancy t).Within

section
variable {s t u : State}

theorem Keeps.refl (s : State) : Keeps s s := id

theorem Keeps.trans (h : Keeps s t) (k : Keeps t u) : Keeps s u := fun hs => k (h hs)

theorem Keeps.same (h : occupancy t = occupancy s) : Keeps s t := fun hs => h ▸ hs

end

/-! ## The Bus Engine, the Scheduler and the Attention Monitor -/

section
variable (s : State) (l : Fin 8) (w : Fin 6)

@[simp] theorem occupancy_makeChoice (starts : Bool) : occupancy (s.makeChoice starts) = occupancy s := by
  unfold State.makeChoice
  repeat' split
  all_goals simp [occupancy]

@[simp] theorem occupancy_endRecovery : occupancy (s.endRecovery w) = occupancy s := by simp [occupancy]

@[simp] theorem occupancy_expirePoll : occupancy (s.expirePoll w) = occupancy s := by simp [occupancy]

@[simp] theorem occupancy_expireDelay : occupancy (s.expireDelay w) = occupancy s := by
  unfold State.expireDelay
  repeat' split
  all_goals simp [occupancy]

@[simp] theorem occupancy_expireWait : occupancy (s.expireWait w) = occupancy s := by
  unfold State.expireWait
  repeat' split
  all_goals simp [occupancy]

@[simp] theorem occupancy_finishPin (data : Word) (rdy : List Bool) : occupancy (s.finishPin data rdy) = occupancy s := by
  unfold State.finishPin
  repeat' split
  all_goals simp [occupancy]

@[simp] theorem occupancy_finishScratch : occupancy s.finishScratch = occupancy s := by
  unfold State.finishScratch
  split <;> simp [occupancy]

@[simp] theorem occupancy_finishTimeout : occupancy s.finishTimeout = occupancy s := by
  unfold State.finishTimeout
  repeat' split
  all_goals simp [occupancy]

@[simp] theorem occupancy_request : occupancy s.request = occupancy s := by simp [occupancy, State.request]

@[simp] theorem occupancy_withdrawRequest : occupancy s.withdrawRequest = occupancy s := by
  unfold State.withdrawRequest
  dsimp only
  split <;> simp [occupancy]

@[simp] theorem occupancy_assertBgnt : occupancy s.assertBgnt = occupancy s := by
  unfold State.assertBgnt
  repeat' split
  all_goals rfl

@[simp] theorem occupancy_overrunRelease : occupancy s.overrunRelease = occupancy s := by
  unfold State.overrunRelease
  dsimp only
  repeat' split
  all_goals simp [occupancy]

@[simp] theorem occupancy_endRelease : occupancy s.endRelease = occupancy s := rfl

@[simp] theorem occupancy_sampleInput (level : Bool) : occupancy (s.sampleInput l level) = occupancy s := by simp [occupancy]

@[simp] theorem occupancy_recogniseLine : occupancy (s.recogniseLine l) = occupancy s := by
  unfold State.recogniseLine
  split <;> simp [occupancy]

end

end Sys2Proof.Requests
end

section
namespace Sys2Proof.Requests

open Sys2Proof Sys2Proof.Machine

/-! ## The transmitter (R179, R183, R185) -/

section
variable {s : State}

@[simp] theorem length_markSent (serial : Word) (f : Sent → Sent) (q : List ReplayFrame) : (markSent serial f q).length = q.length := by
  simp [markSent]

@[simp] theorem occupancy_sendData (s : State) (x : ReplayFrame) : occupancy (s.sendData x) = occupancy s := by
  unfold State.sendData
  dsimp only
  split <;> simp [occupancy, State.sendAcking, State.sendFrame]

@[simp] theorem occupancy_transmitUp (s : State) : occupancy s.transmitUp = occupancy s := by
  unfold State.transmitUp
  split
  · rfl
  split
  · exact occupancy_sendData s _
  split
  · exact occupancy_sendData s _
  split <;> rfl

@[simp] theorem occupancy_transmit (s : State) : occupancy s.transmit = occupancy s := by
  unfold State.transmit
  split
  · rfl
  split
  · rfl
  split
  · exact occupancy_transmitUp s
  all_goals split <;> rfl

theorem Keeps.transmit {t : State} (h : Keeps s t) : Keeps s t.transmit := h.trans (.same (occupancy_transmit t))

/-- What leaves the queues' lengths, the counts and the link state leaves the capacities kept by the transmission that follows. -/
theorem transmit_keeps {t : State} (h : occupancy t = occupancy s) : Keeps s t.transmit := (Keeps.same h).transmit

/-! ## The retransmission timer and acknowledgements (R181 to R184) -/

@[simp] theorem occupancy_restartTimer (s : State) : occupancy s.restartTimer = occupancy s := by
  unfold State.restartTimer
  split <;> rfl

@[simp] theorem occupancy_goBack (s : State) (n : SeqNum) : occupancy (s.goBack n) = occupancy s := by
  simp only [State.goBack, occupancy_restartTimer]
  rfl

/-- An acknowledgement takes frames off the replay buffer and clears the retry count, or does nothing (R181, R184). -/
theorem acknowledge_keeps (s : State) (a : SeqNum) : Keeps s (s.acknowledge a) := by
  unfold State.acknowledge
  dsimp only
  split
  · exact .refl s
  · intro h
    rw [occupancy_restartTimer]
    have hdrop : (s.lnk.replay.drop (s.lnk.released a)).length ≤ 4 := by
      rw [List.length_drop]
      exact (Nat.sub_le _ _).trans h.replay
    exact ⟨h.reports, hdrop, h.intake, h.starvation, Nat.zero_le _, fun _ => Nat.zero_lt_succ _⟩

theorem negative_keeps (s : State) (n : SeqNum) : Keeps s (s.negative n) := by
  unfold State.negative
  dsimp only
  split
  · exact acknowledge_keeps s n
  · split
    · exact (acknowledge_keeps s n).trans (.same (occupancy_goBack _ n))
    · exact acknowledge_keeps s n

/-- Below the retry limit the link goes back, and at the limit it is no longer UP (R184). -/
theorem expireRetransmission_keeps (s : State) : Keeps s s.expireRetransmission := by
  unfold State.expireRetransmission
  split
  · exact .refl s
  · split
    · rename_i d _ hup
      dsimp only
      split
      · rename_i hlimit
        have hretry : Keeps s { s.reach d with lnk.retry := s.lnk.retry + 1 } := fun h =>
          ⟨h.reports, h.replay, h.intake, h.starvation, Nat.le_of_lt hlimit, fun _ => hlimit⟩
        split
        · exact hretry
        · exact (hretry.trans (.same (occupancy_goBack _ _))).transmit
      · refine Keeps.transmit fun h => ?_
        exact ⟨h.reports, h.replay, h.intake, h.starvation, h.up hup, fun hstalled => nomatch hstalled⟩
    · exact .refl s

/-! ## Frames from the host (R175 to R178, R186) -/

/-- A message joins the Intake Queue where an entry is free (R177). -/
theorem sortData_keeps (s : State) (seq : SeqNum) (msg : Message) : Keeps s (s.sortData seq msg) := by
  unfold State.sortData
  dsimp only
  split
  · split
    · rename_i hfree
      intro h
      have hjoined : (s.lnk.intake ++ [msg]).length ≤ 8 := by rw [List.length_append]; exact hfree
      exact ⟨h.reports, h.replay, hjoined, h.starvation, h.retry, h.up⟩
    · exact .same rfl
  · split <;> exact .same rfl

theorem transmitAfterTakes_keeps (s : State) : Keeps s s.transmitAfterTakes := by
  unfold State.transmitAfterTakes
  split
  · exact .refl s
  · exact transmit_keeps rfl

theorem takeData_keeps (s : State) (g : List Byte) : Keeps s (s.takeData g) := by
  unfold State.takeData
  split
  · exact (acknowledge_keeps s _).trans ((sortData_keeps _ _ _).trans (transmitAfterTakes_keeps _))
  · exact .refl s

theorem takeAck_keeps (s : State) (g : List Byte) : Keeps s (s.takeAck g) := by
  unfold State.takeAck
  split
  · exact (acknowledge_keeps s _).transmit
  · exact .refl s

theorem takeNak_keeps (s : State) (g : List Byte) : Keeps s (s.takeNak g) := by
  unfold State.takeNak
  split
  · exact (negative_keeps s _).transmit
  · exact .refl s

@[simp] theorem length_renumber (n : Nat) (q : List ReplayFrame) : (renumber n q).length = q.length := by
  induction q generalizing n with
  | nil => rfl
  | cons x rest ih => exact congrArg (· + 1) (ih (n + 1))

/-- A RESYNC numbers the frames of the replay buffer anew and clears the retry count (R186). -/
theorem takeResync_keeps (s : State) : Keeps s s.takeResync :=
  Keeps.transmit fun h =>
    ⟨h.reports, (length_renumber 0 s.lnk.replay).trans_le h.replay, h.intake, h.starvation, Nat.zero_le _, fun _ => Nat.zero_lt_succ _⟩

theorem damaged_leaves (k : Link) :
    k.damaged.replay = k.replay ∧ k.damaged.intake = k.intake ∧ k.damaged.retry = k.retry ∧ k.damaged.state = k.state := by
  unfold Link.damaged
  split <;> exact ⟨rfl, rfl, rfl, rfl⟩

theorem takeDamaged_keeps (s : State) : Keeps s s.takeDamaged :=
  transmit_keeps (by simp [occupancy, damaged_leaves])

/-- A gathered frame leaves the receiver before it is acted on (R175). -/
theorem takeFrame_keeps (wanted : List Byte → Bool) {effect : State → List Byte → State} (he : ∀ t g, Keeps t (effect t g)) :
    Keeps s (s.takeFrame wanted effect) := by
  unfold State.takeFrame
  split
  · exact .refl s
  · split
    · exact Keeps.trans (t := { s with lnk.gathered := none }) (.same rfl) (he _ _)
    · exact .refl s

theorem checkFrame_keeps (s : State) : Keeps s s.checkFrame := by
  refine takeFrame_keeps _ fun t g => ?_
  split
  · exact takeDamaged_keeps t
  split
  · exact takeData_keeps t g
  split
  · exact takeAck_keeps t g
  split
  · exact takeNak_keeps t g
  split
  · exact takeResync_keeps t
  · exact .refl t

/-! ## The receiver, the timers and the end of a frame (R174, R179, R185, R187) -/

theorem receive_keeps (s : State) (b : Byte) : Keeps s { s with lnk := s.lnk.receive b s.now } := by
  refine .same ?_
  unfold Link.receive
  dsimp only
  repeat' split
  all_goals rfl

theorem takeGap_keeps (s : State) : Keeps s s.takeGap := by
  unfold State.takeGap
  split
  · exact .refl s
  · exact transmit_keeps (by simp [occupancy, damaged_leaves])

theorem requestAck_keeps (s : State) : Keeps s s.requestAck := by
  unfold State.requestAck
  split
  · exact transmit_keeps rfl
  all_goals exact .refl s

theorem occupancy_frameSent (s : State) (kind : TxKind) : occupancy (s.frameSent kind) = occupancy s := by
  unfold State.frameSent
  dsimp only
  repeat' split
  all_goals simp [occupancy, State.startTimer]

theorem endFrame_keeps (s : State) : Keeps s s.endFrame := by
  unfold State.endFrame
  split
  · exact .refl s
  · exact transmit_keeps (occupancy_frameSent _ _)

theorem startAnnouncing_keeps {t : State} (h : occupancy t = occupancy s) : Keeps s t.startAnnouncing := transmit_keeps h

theorem expireAnnounce_keeps (s : State) : Keeps s s.expireAnnounce := by
  unfold State.expireAnnounce
  split
  · exact .refl s
  · split
    · exact .refl s
    · exact startAnnouncing_keeps rfl

/-! ## Reports (R164, R165, R167, R168) -/

theorem canReport_iff : s.canReport = true ↔ s.lnk.state = .up ∧ s.rpt.queue ≠ [] ∧ s.lnk.replay.length < Config.sendWindow := by
  simp only [State.canReport, Bool.and_eq_true, decide_eq_true_eq, and_assoc]

/-- The head report leaves the Report Queue for the replay buffer, where a frame is free (R165, R182). -/
theorem takeReport_keeps (s : State) : Keeps s s.takeReport := by
  unfold State.takeReport
  split
  · rename_i hcan
    obtain ⟨-, -, hfree⟩ := canReport_iff.mp hcan
    split
    · exact .refl s
    · rename_i r rest hqueue
      refine Keeps.transmit fun h => ?_
      have hleft : rest.length ≤ 32 := by
        have hreports : s.rpt.queue.length ≤ 32 := h.reports
        rw [hqueue, List.length_cons] at hreports
        omega
      have hjoined : (s.lnk.replay ++ [(⟨s.lnk.txNext, r, .notBegun⟩ : ReplayFrame)]).length ≤ 4 := by
        rw [List.length_append]
        exact hfree
      exact ⟨hleft, hjoined, h.intake, h.starvation, h.retry, h.up⟩
  · exact .refl s

/-- An admission leaves the link, and the starvation counter stays within 4 (R168). -/
theorem admitOne_starvation (s : State) (h : s.rpt.starvation ≤ 4) : s.admitOne.rpt.starvation ≤ 4 := by
  have hcount : s.countStarvation.rpt.starvation ≤ 4 := by
    unfold State.countStarvation
    dsimp only
    split
    · exact Nat.min_le_left _ _
    · exact Nat.zero_le _
  unfold State.admitOne
  split
  · split
    · unfold State.admitReply
      split
      · exact h
      · exact hcount
    · unfold State.admitCompletion
      split
      · exact h
      · exact hcount
    · unfold State.admitOverrun
      split
      · exact h
      · exact hcount
    · unfold State.admitAttention
      split
      · exact h
      · exact Nat.zero_le _
    · exact h
  · exact h

theorem admitOne_keeps (s : State) : Keeps s s.admitOne := fun h => by
  have hreports : s.admitOne.rpt.queue.length ≤ 32 := by
    rcases admit_queue s with hsame | ⟨hfree, r, hmore⟩
    · rw [hsame]
      exact h.reports
    · rw [hmore, List.length_append]
      exact hfree
  exact ⟨hreports, by simpa [occupancy] using h.replay, by simpa [occupancy] using h.intake, admitOne_starvation s h.starvation,
    by simpa [occupancy] using h.retry, by simpa [occupancy] using h.up⟩

end

end Sys2Proof.Requests
end

section
namespace Sys2Proof.Requests

open Sys2Proof Sys2Proof.Machine

/-! ## Requests and resets -/

section
variable (s : State) (m : Message)

@[simp] theorem refuse_leaves (k : RequestKind) (code : ResultCode) :
    (s.refuse k m code).rpt = s.rpt ∧ (s.refuse k m code).lnk = s.lnk := ⟨rfl, rfl⟩

@[simp] theorem refuseFormat_leaves : (s.refuseFormat m).rpt = s.rpt ∧ (s.refuseFormat m).lnk = s.lnk := ⟨rfl, rfl⟩

@[simp] theorem accept_leaves (k : RequestKind) (body : List Byte) :
    (s.accept k body).rpt = s.rpt ∧ (s.accept k body).lnk = s.lnk := ⟨rfl, rfl⟩

@[simp] theorem occupancy_refuseFormat : occupancy (s.refuseFormat m) = occupancy s := rfl

@[simp] theorem occupancy_submit : occupancy (s.submit m) = occupancy s := by
  unfold State.submit
  repeat' split
  all_goals rfl

@[simp] theorem occupancy_cancel : occupancy (s.cancel m) = occupancy s := by
  unfold State.cancel
  dsimp only
  repeat' split
  all_goals simp [occupancy]

@[simp] theorem occupancy_flush : occupancy (s.flush m) = occupancy s := by
  unfold State.flush
  repeat' split
  all_goals simp [occupancy]

@[simp] theorem occupancy_configureWindow : occupancy (s.configureWindow m) = occupancy s := by
  unfold State.configureWindow
  repeat' split
  all_goals rfl

@[simp] theorem occupancy_clearFault : occupancy (s.clearFault m) = occupancy s := by
  unfold State.clearFault State.clearWindow
  repeat' split
  all_goals rfl

@[simp] theorem occupancy_setupAttention : occupancy (s.setupAttention m) = occupancy s := by
  unfold State.setupAttention
  repeat' split
  all_goals simp [occupancy]

@[simp] theorem occupancy_acknowledgeAttention : occupancy (s.acknowledgeAttention m) = occupancy s := by
  unfold State.acknowledgeAttention
  repeat' split
  all_goals rfl

@[simp] theorem occupancy_holdRequest : occupancy (s.holdRequest m) = occupancy s := by
  unfold State.holdRequest State.holdClear
  dsimp only
  repeat' split
  all_goals simp [occupancy]

@[simp] theorem occupancy_resumeRequest : occupancy (s.resumeRequest m) = occupancy s := by
  unfold State.resumeRequest
  repeat' split
  all_goals rfl

@[simp] theorem occupancy_setSharing : occupancy (s.setSharing m) = occupancy s := by
  unfold State.setSharing
  repeat' split
  all_goals simp [occupancy]

@[simp] theorem occupancy_setLink : occupancy (s.setLink m) = occupancy s := by
  unfold State.setLink
  repeat' split
  all_goals rfl

@[simp] theorem occupancy_queryDevice : occupancy (s.queryDevice m) = occupancy s := by
  unfold State.queryDevice
  split <;> rfl

@[simp] theorem occupancy_queryWindow : occupancy (s.queryWindow m) = occupancy s := by
  unfold State.queryWindow
  repeat' split
  all_goals rfl

@[simp] theorem occupancy_queryTransaction : occupancy (s.queryTransaction m) = occupancy s := by
  unfold State.queryTransaction
  repeat' split
  all_goals rfl

@[simp] theorem occupancy_queryAttention : occupancy (s.queryAttention m) = occupancy s := by
  unfold State.queryAttention
  split <;> rfl

@[simp] theorem occupancy_queryLink : occupancy (s.queryLink m) = occupancy s := by
  unfold State.queryLink
  repeat' split
  all_goals rfl

end

section
variable {s t : State}

/-- After a reset every number is 0 (R143, R159, R172). -/
theorem resetBlocks_keeps (s : State) (cause : ResetCause) (scratch : List Host.Cell) (data : Word) (holding : Bool) :
    Keeps s (s.resetBlocks cause scratch data holding) := fun _ =>
  ⟨Nat.zero_le _, Nat.zero_le _, Nat.zero_le _, Nat.zero_le _, Nat.zero_le _, fun h => nomatch h⟩

theorem softReset_keeps (s : State) : Keeps s s.softReset := by
  unfold State.softReset
  split
  · exact resetBlocks_keeps s _ _ _ _
  · exact (resetBlocks_keeps s _ _ _ _).trans (startAnnouncing_keeps rfl)

theorem resetDevice_keeps (s : State) (m : Message) : Keeps s (s.resetDevice m) := by
  unfold State.resetDevice
  split
  · exact softReset_keeps s
  · exact .same rfl

theorem releaseReset_keeps (s : State) (baud : BitVec 2) (atn : BitVec 8) : Keeps s (s.releaseReset baud atn) := by
  unfold State.releaseReset
  split
  · exact startAnnouncing_keeps rfl
  · exact .refl s

/-- A message that is taken frees its entry of the Intake Queue (R144). -/
theorem pop_keeps {m : Message} {rest : List Message} (hm : s.lnk.intake = m :: rest) : Keeps s (s.pop rest) := fun h => by
  have hintake : rest.length ≤ 8 := by
    have hfull : s.lnk.intake.length ≤ 8 := h.intake
    rw [hm, List.length_cons] at hfull
    omega
  exact ⟨h.reports, h.replay, hintake, h.starvation, h.retry, h.up⟩

theorem carryOut_keeps (s : State) (m : Message) : Keeps s (s.carryOut m) := by
  unfold State.carryOut
  cases kindNamed (kindOf m) with
  | none => exact .same rfl
  | some k =>
    cases k with
    | resetDevice => exact resetDevice_keeps s m
    | _ => exact .same (by simp)

theorem takeRequest_keeps (s : State) : Keeps s s.takeRequest := by
  unfold State.takeRequest
  split
  · exact .refl s
  · split
    · exact (pop_keeps ‹_›).trans (carryOut_keeps _ _)
    · exact .refl s

theorem takeKind_keeps {k : Option RequestKind} {body : State → Message → State} (hb : ∀ t m, Keeps t (body t m)) :
    Keeps s (s.takeKind k body) := by
  unfold State.takeKind
  split
  · exact .refl s
  · split
    · exact (pop_keeps ‹_›).trans (hb _ _)
    · exact .refl s

/-! ## Steps that are due, and events -/

theorem takeDue_keeps (s : State) (d : Due) : Keeps s (s.takeDue d) := by
  cases d with
  | frame => exact checkFrame_keeps s
  | request => exact takeRequest_keeps s
  | admission => exact admitOne_keeps s
  | report => exact takeReport_keeps s
  | change l => exact .same (occupancy_recogniseLine s l)
  | release => exact .same (occupancy_endRelease s)

theorem drainTo_keeps (moment : State → Nat) (n : Nat) (s : State) : Keeps s (State.drainTo moment n s) := by
  induction n generalizing s with
  | zero => exact .refl s
  | succ n ih =>
    unfold State.drainTo
    split
    · exact .refl s
    · exact (takeDue_keeps s _).trans (ih _)

theorem before_keeps (s : State) (effect : State → State) : Keeps s (s.before effect) := drainTo_keeps _ _ s

theorem upToWithin_keeps (d : Due) (n : Nat) (s : State) : Keeps s (State.upToWithin d n s) := by
  induction n generalizing s with
  | zero => exact .refl s
  | succ n ih =>
    unfold State.upToWithin
    split
    · exact .refl s
    · split
      · exact .refl s
      · exact (takeDue_keeps s _).trans (ih _)

theorem upTo_keeps (s : State) (d : Due) : Keeps s (s.upTo d) := upToWithin_keeps d _ s

theorem event_keeps {effect : State → State} (he : ∀ t, Keeps t (effect t)) : Keeps s (s.event effect) := by
  unfold State.event
  split
  · exact .refl s
  · exact (before_keeps s effect).trans (he _)

/-- Where a command goes on to a next state, that keeps the capacities. -/
def KeepsOn (s : State) (o : Host.Outcome State Fault Refusal) : Prop := ∀ t, o = .next t → Keeps s t

theorem keepsOn_next (h : Keeps s t) : KeepsOn s (.next t) := by
  rintro _ e
  cases e
  exact h

theorem keepsOn_kind {k : Option RequestKind} {body : State → Message → State} (hb : ∀ t m, occupancy (body t m) = occupancy t) :
    KeepsOn s (.next (s.takeKind k body)) := keepsOn_next (takeKind_keeps fun t m => .same (hb t m))

theorem keepsOn_frame {wanted : List Byte → Bool} {effect : State → List Byte → State} (he : ∀ t g, Keeps t (effect t g)) :
    KeepsOn s (.next (s.takeFrame wanted effect)) := keepsOn_next (takeFrame_keeps wanted he)

theorem keepsOn_event {effect : State → State} (he : ∀ t, Keeps t (effect t)) : KeepsOn s (.next (s.event effect)) :=
  keepsOn_next (event_keeps he)

theorem scratchAccessCompletion_keeps : KeepsOn s (execScratchAccessCompletion s) := by
  unfold execScratchAccessCompletion
  split
  · exact keepsOn_next (.refl s)
  · dsimp only
    split
    · exact keepsOn_next ((before_keeps s _).trans (.same (occupancy_finishScratch _)))
    · exact fun _ h => nomatch h

theorem breqAsserted_keeps : KeepsOn s (execBreqAsserted s) := by
  unfold execBreqAsserted
  split
  · exact keepsOn_next (.same rfl)
  · exact keepsOn_event fun t => .same (occupancy_request t)

theorem breqDeasserted_keeps : KeepsOn s (execBreqDeasserted s) := by
  unfold execBreqDeasserted
  split
  · exact keepsOn_next (.same rfl)
  · exact keepsOn_event fun t => .same (occupancy_withdrawRequest t)

theorem changeRecognised_keeps (l : Fin 8) : KeepsOn s (execChangeRecognised l s) := by
  unfold execChangeRecognised
  split
  · exact keepsOn_next (.refl s)
  · exact keepsOn_next ((upTo_keeps s _).trans (.same (occupancy_recogniseLine _ l)))

end

/-! ## The commands (O9) -/

theorem exec_keeps (i : Instr) (s : State) : KeepsOn s (exec i s) := by
  cases i with
  | submit | cancel | flush | configureWindow | clearFault | setupAttention | acknowledgeAttention | hold | resume | setSharing
  | setLink | queryDevice | queryWindow | queryTransaction | queryAttention | queryLink | unknownRequest =>
    exact keepsOn_kind (by simp)
  | resetDevice => exact keepsOn_next (takeKind_keeps resetDevice_keeps)
  | dataFrame => exact keepsOn_frame takeData_keeps
  | ackFrame => exact keepsOn_frame takeAck_keeps
  | nakFrame => exact keepsOn_frame takeNak_keeps
  | resync => exact keepsOn_frame fun t _ => takeResync_keeps t
  | crcError => exact keepsOn_frame fun t _ => takeDamaged_keeps t
  | hostResyncReply | unknownControlFrame => exact keepsOn_frame fun t _ => .refl t
  | byteReceived b => exact keepsOn_event fun t => receive_keeps t b
  | gapError => exact keepsOn_event takeGap_keeps
  | ackRequested => exact keepsOn_event requestAck_keeps
  | frameTransmitEnd => exact keepsOn_event endFrame_keeps
  | retransmissionTimeout => exact keepsOn_event expireRetransmission_keeps
  | announceTimer => exact keepsOn_event expireAnnounce_keeps
  | shareOverrunRaise | grant | recoveryEnd | accessCompletion | readyTimeout | pollTimerExpiry | delayExpiry | waitTimeout
  | attentionInputChange | bgntAssertion => exact keepsOn_event fun t => .same (by simp)
  | reportTake => exact keepsOn_next ((upTo_keeps s _).trans (takeReport_keeps _))
  | reportAdmission => exact keepsOn_next ((upTo_keeps s _).trans (admitOne_keeps _))
  | scratchAccessCompletion => exact scratchAccessCompletion_keeps
  | changeRecognised l => exact changeRecognised_keeps l
  | breqAsserted => exact breqAsserted_keeps
  | breqDeasserted => exact breqDeasserted_keeps
  | powerOnReset | pinReset => exact keepsOn_next (resetBlocks_keeps s _ _ _ _)
  | resetRelease baud atn => exact keepsOn_next (releaseReset_keeps s baud atn)

/-- Settles O9: where a queue or a count grows, the operation that grows it has a free entry or a limit to stand before. -/
theorem linkStaysBounded : Obligations.LinkStaysBounded := by
  intro s t hs h
  rw [linkBounded_iff] at hs ⊢
  unfold step at h
  split at h
  · cases h
    exact (before_keeps s State.nextTick).trans (.same rfl) hs
  · exact exec_keeps _ _ t h hs

end Sys2Proof.Requests
end

section
namespace Sys2Proof.Requests

open Sys2Proof Sys2Proof.Machine

/-! ## Steps that are due settle (log entry 1) -/

/-- Settles O2: each step that is due lowers the burden, which the bound of `State.before` contains. -/
theorem drainSettles : Obligations.DrainSettles := by
  refine ⟨fun s effect _ => ⟨Attention.dueBy_before s effect, fun d h => Attention.before_of_dueBy h⟩, fun s => ?_⟩
  exact ⟨Attention.dueBy_before s fun t => t, fun d h => Attention.before_of_dueBy (effect := fun t => t) h⟩

end Sys2Proof.Requests
end

section
namespace Sys2Proof.Requests

open Sys2Proof Sys2Proof.Machine Sys2Proof.Windows Sys2Proof.Cancellation

/-! ## The request of each kind (R144) -/

/-- What a request of the kind does. -/
def request : RequestKind → State → Message → State
  | .submit => State.submit
  | .cancel => State.cancel
  | .flush => State.flush
  | .configureWindow => State.configureWindow
  | .clearFault => State.clearFault
  | .setupAttention => State.setupAttention
  | .acknowledgeAttention => State.acknowledgeAttention
  | .hold => State.holdRequest
  | .resume => State.resumeRequest
  | .setSharing => State.setSharing
  | .setLink => State.setLink
  | .resetDevice => State.resetDevice
  | .queryDevice => State.queryDevice
  | .queryWindow => State.queryWindow
  | .queryTransaction => State.queryTransaction
  | .queryAttention => State.queryAttention
  | .queryLink => State.queryLink

section
variable {s : State} {m : Message} {rest : List Message} {k : RequestKind}

theorem exec_command (k : RequestKind) (s : State) : exec k.command s = .next (s.takeKind (some k) (request k)) := by
  cases k <;> rfl

/-- The command of a kind carries out a message of that kind. -/
theorem exec_of_offers (h : s.offers m rest) (hk : m.headD 0#8 = k.code) : exec k.command s = .next (request k (s.pop rest) m) := by
  rw [exec_command, takeKind_of_offers h hk]

/-- An answer that is formed where nothing but the message and its count have gone. -/
theorem refuse_pop (hwait : s.dsp.holdWait = none) (k : RequestKind) (m : Message) (code : ResultCode) :
    (s.pop rest).refuse k m code = s.answered rest k.code code (k.object m) := reply_pop hwait ..

theorem accept_pop (hwait : s.dsp.holdWait = none) (k : RequestKind) (body : List Byte) :
    (s.pop rest).accept k body = s.answered rest k.code .accepted body := reply_pop hwait ..

/-! ## The format check (R149, Table 11–2) -/

theorem kindNamed_eq_none_iff (b : Byte) : kindNamed b = none ↔ b.toNat = 0 ∨ 17 < b.toNat := by
  revert b
  decide

/-- The row of Table 11–2: SUBMIT has a least length, every other kind one length. -/
theorem formatOk_eq_false_iff (k : RequestKind) (m : Message) :
    k.formatOk m = false ↔ if k = .submit then m.length < k.length else m.length ≠ k.length := by
  cases k <;> simp [RequestKind.formatOk]

/-- Every kind checks its format first. -/
theorem request_of_format (hf : k.formatOk m = false) (s : State) : request k s m = s.refuseFormat m := by
  have hnot : ¬ k.formatOk m = true := by simp [hf]
  cases k <;> exact if_neg hnot

/-- The refusal of the format check carries the kind code as received (R148). -/
theorem refuseFormat_pop (hwait : s.dsp.holdWait = none) (m : Message) :
    (s.pop rest).refuseFormat m = s.answered rest (m.headD 0#8) .badFormat [] := by
  rw [State.refuseFormat, reply_pop hwait, kindOf_eq]

/-- A message of no known kind is refused, and does nothing else. -/
theorem exec_unknownRequest (h : s.offers m rest) (hk : kindNamed (m.headD 0#8) = none) :
    exec .unknownRequest s = .next ((s.pop rest).refuseFormat m) := by
  obtain ⟨hm, hidle⟩ := h
  rw [← kindOf_eq] at hk
  exact congrArg Host.Outcome.next (takeKind_of hm (dispatcherIdle_iff.mpr hidle) hk)

end

/-- Settles O22: the table's rows are the codes and lengths of the kinds, and each kind checks its format first. -/
theorem requestFormat : Obligations.RequestFormat := by
  intro s m rest h
  have ⟨_, _, hwait⟩ := h
  refine ⟨fun hunknown => ?_, fun row hrow => ?_⟩
  · rw [exec_unknownRequest h ((kindNamed_eq_none_iff _).mpr hunknown), refuseFormat_pop hwait]
  · have htable : row = (row.1, row.1.code, row.1.length) := by
      revert row
      decide
    rw [htable]
    intro hk hlen
    rw [exec_of_offers h hk, request_of_format ((formatOk_eq_false_iff _ m).mpr hlen), refuseFormat_pop hwait, hk]

end Sys2Proof.Requests
end

section
namespace Sys2Proof.Requests

open Sys2Proof Sys2Proof.Machine Sys2Proof.Windows

/-! ## SET LINK and QUERY LINK (R157, R158) -/

theorem byteOf_toNat (b : Byte) : byteOf b.toNat = b := BitVec.ofNat_toNat 8 b

theorem setLink_of_byte (s : State) (b : Byte) :
    s.setLink [0x0B#8, b] = if 5 ≤ b.toNat ∧ b.toNat ≤ 200 then { s with lnk.timeout := b.toNat }.accept .setLink [b]
      else s.refuse .setLink [0x0B#8, b] .badValue := by
  have hformat : RequestKind.setLink.formatOk [0x0B#8, b] = true := rfl
  have hfield : byteAt [0x0B#8, b] 1 = b := rfl
  unfold State.setLink
  rw [if_pos hformat, hfield]
  by_cases hb : 5 ≤ b.toNat ∧ b.toNat ≤ 200
  · rw [if_pos hb, within, if_pos hb]
    dsimp only
    rw [byteOf_toNat]
  · rw [if_neg hb, within, if_neg hb]

theorem queryLink_of_no_value (s : State) {b : Byte} (hb : 1 < b.toNat) :
    s.queryLink [0x11#8, b] = s.refuse .queryLink [0x11#8, b] .badValue := by
  have hnone : yesNo (byteAt [0x11#8, b] 1) = none := (yesNo_eq_none_iff b).mpr hb
  have hformat : RequestKind.queryLink.formatOk [0x11#8, b] = true := rfl
  unfold State.queryLink
  rw [if_pos hformat, hnone]

theorem yesNo_of_le {b : Byte} (hb : b.toNat ≤ 1) : yesNo b = some (decide (b = 1#8)) := by
  revert b
  decide

theorem queryLink_of_flag (s : State) {b : Byte} (hb : b.toNat ≤ 1) :
    s.queryLink [0x11#8, b] =
      { s with lnk.counters := if b = 1#8 then Counters.zero else s.lnk.counters }.accept .queryLink s.lnk.queryBody := by
  have hflag : yesNo (byteAt [0x11#8, b] 1) = some (decide (b = 1#8)) := yesNo_of_le hb
  have hformat : RequestKind.queryLink.formatOk [0x11#8, b] = true := rfl
  unfold State.queryLink
  rw [if_pos hformat, hflag]
  simp only [decide_eq_true_eq]

/-- The seven counters stand one after another before the timeout. -/
theorem linkBody_eq (k : Link) : k.queryBody =
    ([k.counters.crc, k.counters.gap, k.counters.duplicate, k.counters.outOfOrder, k.counters.intakeFull, k.counters.retransmission,
      k.counters.resync].flatMap natBytes) ++ [byteOf k.timeout] := by
  simp [Link.queryBody]

/-- Settles O35: each request reads its one byte, and writes one field of the Link Controller. -/
theorem linkRequests : Obligations.LinkRequests := by
  refine fun s rest b => ⟨fun h => ?_, fun h => ⟨fun hb => ?_, fun hb => ?_⟩⟩
  all_goals have ⟨_, _, hwait⟩ := h
  · have hexec := exec_of_offers (k := .setLink) h rfl
    refine hexec.trans (congrArg _ ((setLink_of_byte _ b).trans ?_))
    split
    · exact accept_pop (s := { s with lnk.timeout := b.toNat }) hwait ..
    · exact refuse_pop hwait ..
  · have hexec := exec_of_offers (k := .queryLink) h rfl
    exact hexec.trans (congrArg _ ((queryLink_of_no_value _ hb).trans (refuse_pop hwait ..)))
  · have hexec := exec_of_offers (k := .queryLink) h rfl
    have hanswer := accept_pop (s := { s with lnk.counters := if b = 1#8 then Counters.zero else s.lnk.counters }) (rest := rest) hwait
      .queryLink s.lnk.queryBody
    rw [← linkBody_eq]
    exact hexec.trans (congrArg _ ((queryLink_of_flag _ hb).trans hanswer))

end Sys2Proof.Requests
end

section
namespace Sys2Proof.Requests

open Sys2Proof Sys2Proof.Machine Sys2Proof.Windows

/-! ## Queries of device, attention, window and transaction (R153 to R156) -/

section
variable {s : State} {rest : List Message}

/-- The 13 bytes of Table 11–7. -/
theorem deviceBody_eq (s : State) : s.deviceBody =
    [0x20#8, 0x41#8, 0x01#8, byteOf (48 - (s.busSide.length + s.rpt.backlog.length)), byteOf s.rpt.queue.length,
      byteOf s.rpt.backlog.length, flagByte s.sch.hold, flagByte (decide (s.bus.ownership = .released)), flagByte s.bus.shareEnable]
      ++ natBytes s.bus.shareLimit ++ wordBytes s.epoch := by
  have hcode : wordBytes Config.partCode = [0x20#8, 0x41#8] := by decide
  have hfree : s.freeRecords = 48 - (s.busSide.length + s.rpt.backlog.length) := by
    rw [State.freeRecords, State.live, List.length_append]
    rfl
  rw [State.deviceBody, hcode, hfree]
  rfl

/-- A line's last edge is one of two. -/
theorem edgeByte_eq (e : Edge) : e.byte = if e = .rise then 0#8 else 1#8 := by cases e <;> rfl

theorem windowBody_eq (s : State) (w : Fin 6) : s.windowBody w =
    [(s.window w).state.byte] ++ (s.window w).profile.bytes ++ [byteOf (s.queue w).length]
      ++ wordBytes (((s.queue w).head?.map Record.tag).getD 0#16)
      ++ [(((s.queue w).head?.map Record.state).map TxState.byte).getD 0#8] := by
  unfold State.windowBody State.head
  cases (s.queue w).head? <;> simp

theorem flagByte_isSome {α : Type} (a : Option α) [Decidable (a = none)] : flagByte a.isSome = if a = none then 0#8 else 1#8 := by
  cases a <;> simp [flagByte]

theorem queryWindow_of_no_window (s : State) {b : Byte} (hb : 5 < b.toNat) :
    s.queryWindow [0x0E#8, b] = s.refuse .queryWindow [0x0E#8, b] .badWindow := by
  have hnone : windowOf (byteAt [0x0E#8, b] 1) = none := (windowOf_eq_none_iff b).mpr hb
  have hformat : RequestKind.queryWindow.formatOk [0x0E#8, b] = true := rfl
  unfold State.queryWindow
  rw [if_pos hformat, hnone]

theorem queryWindow_of_window (s : State) (w : Fin 6) :
    s.queryWindow [0x0E#8, byteOf w.val] = s.accept .queryWindow (s.windowBody w) := by
  have hwindow : windowOf (byteAt [0x0E#8, byteOf w.val] 1) = some w := windowOf_byteOf w
  have hformat : RequestKind.queryWindow.formatOk [0x0E#8, byteOf w.val] = true := rfl
  unfold State.queryWindow
  rw [if_pos hformat, hwindow]

/-- The tag of a QUERY TRANSACTION, and the record it finds. -/
theorem queryTransaction_of_tag (s : State) (tag : Word) :
    s.queryTransaction ([0x0F#8] ++ wordBytes tag) =
      if tag = 0#16 then s.refuse .queryTransaction ([0x0F#8] ++ wordBytes tag) .badTag
      else ((s.live.find? fun r => decide (r.tag = tag)).map fun r => s.accept .queryTransaction r.queryBody).getD
        (s.refuse .queryTransaction ([0x0F#8] ++ wordBytes tag) .unknownTag) := by
  have hfield : wordAt ([0x0F#8] ++ wordBytes tag) 1 = tag := ScratchMemory.wordOf_bytes tag
  have hformat : RequestKind.queryTransaction.formatOk ([0x0F#8] ++ wordBytes tag) = true := rfl
  unfold State.queryTransaction
  rw [if_pos hformat, hfield]
  split
  · rfl
  · split <;> simp [*]

/-- With distinct tags a tag finds the one live record that carries it (R2). -/
theorem find_live_of_mem {r : Record} (hd : s.tagsDistinct = true) (hr : r ∈ s.live) :
    (s.live.find? fun x => decide (x.tag = r.tag)) = some r := by
  cases hf : s.live.find? fun x => decide (x.tag = r.tag) with
  | none => exact absurd (decide_eq_true rfl) (List.find?_eq_none.mp hf r hr)
  | some x =>
    have htag : x.tag = r.tag := by simpa using List.find?_some hf
    rw [Records.tagsDistinct_iff] at hd
    rw [List.inj_on_of_nodup_map hd (List.mem_of_find?_eq_some hf) hr htag]

end

/-- Settles O36: each query is answered from the state that its taking has left as it was. -/
theorem queries : Obligations.Queries := by
  refine ⟨fun s rest => ⟨fun h => ?_, fun h => ?_⟩, fun s rest => ⟨fun b h hb => ?_, fun w h => ?_, fun tag h => ?_⟩⟩
  all_goals have ⟨_, _, hwait⟩ := h
  · rw [← deviceBody_eq]
    exact (exec_of_offers (k := .queryDevice) h rfl).trans (congrArg _ (accept_pop hwait ..))
  · refine (exec_of_offers (k := .queryAttention) h rfl).trans (congrArg _ ((accept_pop hwait ..).trans ?_))
    refine congrArg (s.answered rest 0x10#8 .accepted) (List.flatMap_congr fun l _ => ?_)
    unfold Line.entryBytes
    rw [edgeByte_eq]
    rfl
  · have hrefuse := (queryWindow_of_no_window (s.pop rest) hb).trans (refuse_pop hwait ..)
    exact (exec_of_offers (k := .queryWindow) h rfl).trans (congrArg _ hrefuse)
  · have haccept := (queryWindow_of_window (s.pop rest) w).trans (accept_pop hwait ..)
    have hbody : (s.pop rest).windowBody w = s.windowBody w := rfl
    rw [hbody, windowBody_eq] at haccept
    refine (exec_of_offers (k := .queryWindow) h rfl).trans (congrArg _ (haccept.trans ?_))
    generalize (s.queue w).head?.map Record.state = st
    rcases st with _ | _ | _ | _ | _ | _ <;> rfl
  · have hexec := (exec_of_offers (k := .queryTransaction) h rfl).trans (congrArg _ (queryTransaction_of_tag _ tag))
    refine ⟨fun hzero => ?_, fun hzero hnone => ?_, fun r hr hzero htag hd => ?_⟩
    · rw [if_pos hzero] at hexec
      exact hexec.trans (congrArg _ (refuse_pop hwait ..))
    · have hfind : ((s.pop rest).live.find? fun x => decide (x.tag = tag)) = none :=
        List.find?_eq_none.mpr fun x hx => by simpa using hnone x hx
      rw [if_neg hzero, hfind] at hexec
      exact hexec.trans (congrArg _ (refuse_pop hwait ..))
    · have hfind : ((s.pop rest).live.find? fun x => decide (x.tag = tag)) = some r := htag ▸ find_live_of_mem hd hr
      rw [if_neg hzero, hfind] at hexec
      refine (hexec.trans (congrArg _ (accept_pop hwait ..))).trans ?_
      rw [Record.queryBody, flagByte_isSome]
      rfl

end Sys2Proof.Requests
end

section
namespace Sys2Proof.Requests

open Sys2Proof Sys2Proof.Machine Sys2Proof.Windows Sys2Proof.Cancellation

/-! ## The checks of a SUBMIT (R150) -/

section
variable {s : State} {m : Message} {rest : List Message} {c : Instr} {k : RequestKind} {code : ResultCode}
  {checks : List (Bool × ResultCode)}

/-- A check that does not fail leaves the others to be gone through. -/
theorem refusedFirst_skip {p : Prop} [Decidable p] {kind : Byte} {object : List Byte} (hp : ¬ p)
    (h : s.refusedFirst c kind rest object checks) : s.refusedFirst c kind rest object ((decide p, code) :: checks) := by
  have hfirst : firstFailure ((decide p, code) :: checks) = firstFailure checks := by simp [firstFailure_cons, hp]
  unfold State.refusedFirst
  rw [hfirst]
  exact h

/-- One check stands before the others: where it fails the request is refused with its code, and else the others are gone through. -/
theorem refusedFirst_of_check {p : Prop} [Decidable p] (hcode : code ≠ .badFormat) (hwait : s.dsp.holdWait = none)
    (hfail : p → exec c s = .next ((s.pop rest).refuse k m code))
    (hpass : ¬ p → s.refusedFirst c k.code rest (k.object m) checks) :
    s.refusedFirst c k.code rest (k.object m) ((decide p, code) :: checks) := by
  by_cases hp : p
  · exact refusedFirst_of_refuse (by simp [firstFailure_cons, hp]) hcode hwait (hfail hp)
  · exact refusedFirst_skip hp (hpass hp)

end

section
variable {s : State} {m : Message} {rest : List Message} {w : Fin 6} {cls : TxClass} {barrier : Bool} {ops : List Op} {x : Submission}
  {code : ResultCode}

/-! ### Checks 2 to 6, and the class and barrier fields -/

theorem checkSubmit_of_zero (htag : wordAt m 1 = 0#16) : s.checkSubmit m = .error .badTag := if_pos htag

theorem checkSubmit_of_no_window (htag : wordAt m 1 ≠ 0#16) (hw : windowOf (byteAt m 3) = none) : s.checkSubmit m = .error .badWindow := by
  unfold State.checkSubmit
  rw [if_neg htag, hw]

theorem checkSubmit_of_disabled (htag : wordAt m 1 ≠ 0#16) (hw : windowOf (byteAt m 3) = some w) (hst : (s.window w).state = .disabled) :
    s.checkSubmit m = .error .windowDisabled := by
  unfold State.checkSubmit
  simp only [if_neg htag, hw, hst]

theorem checkSubmit_of_faulted (htag : wordAt m 1 ≠ 0#16) (hw : windowOf (byteAt m 3) = some w) (hst : (s.window w).state = .faulted) :
    s.checkSubmit m = .error .windowFaulted := by
  unfold State.checkSubmit
  simp only [if_neg htag, hw, hst]

theorem checkSubmit_of_no_ops (htag : wordAt m 1 ≠ 0#16) (hw : windowOf (byteAt m 3) = some w) (hst : (s.window w).state = .enabled)
    (hops : submittedOps m = none) : s.checkSubmit m = .error .badOperation := by
  unfold submittedOps at hops
  unfold State.checkSubmit
  simp only [if_neg htag, hw, hst, hops]

theorem checkSubmit_of_no_value (htag : wordAt m 1 ≠ 0#16) (hw : windowOf (byteAt m 3) = some w) (hst : (s.window w).state = .enabled)
    (hops : submittedOps m = some ops) (hv : classOf (byteAt m 4) = none ∨ yesNo (byteAt m 5) = none) :
    s.checkSubmit m = .error .badValue := by
  unfold submittedOps at hops
  unfold State.checkSubmit
  simp only [if_neg htag, hw, hst, hops]
  rcases hv with hc | hb
  · rw [hc]
  · rw [hb]
    cases classOf (byteAt m 4) <;> rfl

/-- The message names a window that is ENABLED, and its records, class and barrier flag are read. -/
structure Reads (s : State) (m : Message) (x : Submission) : Prop where
  tag : x.tag = wordAt m 1
  nonzero : wordAt m 1 ≠ 0#16
  window : windowOf (byteAt m 3) = some x.window
  enabled : (s.window x.window).state = .enabled
  ops : submittedOps m = some x.ops
  cls : classOf (byteAt m 4) = some x.cls
  barrier : yesNo (byteAt m 5) = some x.barrier

/-- A SUBMIT that is read is left to checks 7 to 12. -/
theorem checkSubmit_of_reads (h : Reads s m x) : s.checkSubmit m = ((s.checkRoom x).map Except.error).getD (.ok x) := by
  obtain ⟨tag, w, cls, barrier, ops⟩ := x
  obtain ⟨rfl, hnonzero, hw, hst, hops, hcls, hbarrier⟩ := h
  unfold submittedOps at hops
  dsimp only at hst
  unfold State.checkSubmit
  simp only [if_neg hnonzero, hw, hst, hops, hcls, hbarrier]
  cases s.checkRoom ⟨wordAt m 1, w, cls, barrier, ops⟩ <;> rfl

/-! ### Checks 7 to 12 -/

theorem tagLive_iff {tag : Word} : s.tagLive tag = true ↔ ∃ r ∈ s.live, r.tag = tag := by simp [State.tagLive]

theorem poolFull_iff : s.poolFull barrier = true ↔ 48 ≤ s.live.length ∨ (barrier = true ∧ 94 < s.epochReach) := by
  simp only [State.poolFull, Bool.or_eq_true, Bool.and_eq_true, decide_eq_true_eq]
  exact Iff.rfl

theorem checkRoom_eq (s : State) (x : Submission) : s.checkRoom x = firstFailure [
    (decide (∃ op ∈ x.ops, op.fitsWidth (s.window x.window).profile.width = false), .badValue),
    (decide (∃ op ∈ x.ops, op.fitsAddress (s.window x.window).profile.addressBits = false), .addrRange),
    (decide (192 < resultSize (s.window x.window).profile.width x.ops), .resultTooLarge),
    (decide (∃ r ∈ s.live, r.tag = x.tag), .dupTag),
    (decide (48 ≤ s.live.length ∨ (x.barrier = true ∧ 94 < s.epochReach)), .poolFull),
    (decide ((s.window x.window).profile.queueLimit ≤ (s.queue x.window).length), .queueFull)] := by
  unfold State.checkRoom
  simp only [firstFailure_cons, firstFailure_nil, decide_eq_true_eq, List.all_eq_false, Bool.not_eq_true, tagLive_iff, poolFull_iff, Config.resultLimit]

theorem checkRoom_ne_badFormat (s : State) (x : Submission) : s.checkRoom x ≠ some .badFormat := by
  unfold State.checkRoom
  dsimp only
  repeat' split
  all_goals simp

/-! ### The command -/

theorem formatOk_submit (m : Message) : RequestKind.submit.formatOk m = true ↔ 7 ≤ m.length := decide_eq_true_iff

theorem submit_of_error (hlen : 7 ≤ m.length) (he : s.checkSubmit m = .error code) : s.submit m = s.refuse .submit m code := by
  unfold State.submit
  rw [if_pos ((formatOk_submit m).mpr hlen), he]

theorem submit_of_ok (hlen : 7 ≤ m.length) (he : s.checkSubmit m = .ok x) : s.submit m = s.acceptSubmit x := by
  unfold State.submit
  rw [if_pos ((formatOk_submit m).mpr hlen), he]

/-- The checks are of the state as it was before the message was taken. -/
theorem checkSubmit_pop (s : State) (rest : List Message) (m : Message) : (s.pop rest).checkSubmit m = s.checkSubmit m := rfl

theorem exec_submit (h : s.offers m rest) (hk : m.headD 0#8 = 0x01#8) : exec .submit s = .next ((s.pop rest).submit m) :=
  exec_of_offers (k := .submit) h hk

theorem classOf_eq_none_iff (b : Byte) : classOf b = none ↔ 1 < b.toNat := by
  revert b
  decide

end

/-- Settles O24: the model goes through the same checks in the same order. -/
theorem submitCheckOrder : Obligations.SubmitCheckOrder := by
  intro s m rest h hk w p ops
  have hexec := exec_submit h hk
  have ⟨_, _, hwait⟩ := h
  by_cases hshort : m.length < 7
  · refine refusedFirst_of_refuseFormat (k := .submit) (by simp [firstFailure_cons, hshort]) hk hwait (hexec.trans (congrArg _ ?_))
    exact request_of_format (k := .submit) ((formatOk_eq_false_iff _ m).mpr hshort) _
  have hlen := Nat.not_lt.mp hshort
  have herror : ∀ {code}, s.checkSubmit m = .error code → exec .submit s = .next ((s.pop rest).refuse .submit m code) := fun he =>
    hexec.trans (congrArg _ (submit_of_error hlen ((checkSubmit_pop s rest m).trans he)))
  refine refusedFirst_skip hshort ?_
  refine refusedFirst_of_check (k := .submit) (by decide) hwait (fun htag => herror (checkSubmit_of_zero htag)) fun htag => ?_
  refine refusedFirst_of_check (by decide) hwait
    (fun hw => herror (checkSubmit_of_no_window htag ((windowOf_eq_none_iff _).mpr hw))) fun hw => ?_
  have hwindow : windowOf (byteAt m 3) = some w := windowOf_of_le (Nat.not_lt.mp hw)
  refine refusedFirst_of_check (by decide) hwait (fun hst => herror (checkSubmit_of_disabled htag hwindow hst)) fun hdisabled => ?_
  refine refusedFirst_of_check (by decide) hwait (fun hst => herror (checkSubmit_of_faulted htag hwindow hst)) fun hfaulted => ?_
  have henabled : (s.window w).state = .enabled := by
    cases hst : (s.window w).state with
    | disabled => exact absurd hst hdisabled
    | faulted => exact absurd hst hfaulted
    | enabled => rfl
  refine refusedFirst_of_check (by decide) hwait (fun hops => herror (checkSubmit_of_no_ops htag hwindow henabled hops)) fun hops => ?_
  have hread : submittedOps m = some ops := by
    obtain ⟨given, hgiven⟩ := Option.ne_none_iff_exists'.mp hops
    simp only [ops, hgiven, Option.getD_some]
  by_cases hv : 1 < (byteAt m 4).toNat ∨ 1 < (byteAt m 5).toNat
  · refine refusedFirst_of_refuse (k := .submit) (code := .badValue) ?_ (by decide) hwait (herror ?_)
    · simp only [← or_assoc, hv, true_or, decide_true, firstFailure_cons, if_true]
    · exact checkSubmit_of_no_value htag hwindow henabled hread (hv.imp (classOf_eq_none_iff _).mpr (yesNo_eq_none_iff _).mpr)
  obtain ⟨hclass, hflag⟩ := not_or.mp hv
  obtain ⟨cls, hcls⟩ := Option.ne_none_iff_exists'.mp (mt (classOf_eq_none_iff _).mp hclass)
  have hcheck := checkSubmit_of_reads (s := s) (x := ⟨wordAt m 1, w, cls, decide (byteAt m 5 = 1#8), ops⟩)
    ⟨rfl, htag, hwindow, henabled, hread, hcls, yesNo_of_le (Nat.not_lt.mp hflag)⟩
  have hroom := checkRoom_eq s ⟨wordAt m 1, w, cls, decide (byteAt m 5 = 1#8), ops⟩
  cases hr : s.checkRoom ⟨wordAt m 1, w, cls, decide (byteAt m 5 = 1#8), ops⟩ with
  | some code =>
    rw [hr] at hcheck hroom
    refine refusedFirst_of_refuse (k := .submit) (code := code) ?_ ?_ hwait (herror hcheck)
    · simpa only [← or_assoc, hv, false_or, decide_eq_true_eq] using hroom.symm
    · exact fun e => checkRoom_ne_badFormat s _ (e ▸ hr)
  | none =>
    rw [hr] at hcheck hroom
    refine refusedFirst_of_accept (k := .submit) ?_ (hexec.trans (congrArg _ (submit_of_ok hlen hcheck)))
    simpa only [← or_assoc, hv, false_or, decide_eq_true_eq] using hroom.symm

end Sys2Proof.Requests
end

section
namespace Sys2Proof.Requests

open Sys2Proof Sys2Proof.Machine Sys2Proof.Windows

/-! ## Operation records that are read back (Table 11–5, R192) -/

theorem opFlag_flagByte (b : Bool) : opFlag (flagByte b) = b := by cases b <;> rfl

/-- A number of a range is read back from one byte. -/
theorem within_byteOf {lo hi n : Nat} (hlo : lo ≤ n) (hhi : n ≤ hi) (h : hi < 256) : within lo hi (byteOf n).toNat = some n := by
  rw [byteOf, BitVec.toNat_ofNat]
  exact within_mod hlo hhi h

theorem takeWords_wordBytes (vs : List Word) (rest : List Byte) : takeWords vs.length (vs.flatMap wordBytes ++ rest) = some (vs, rest) := by
  induction vs with
  | nil => rfl
  | cons v vs ih =>
    have hword : (v :: vs).flatMap wordBytes ++ rest = v.setWidth 8 :: (v >>> 8).setWidth 8 :: (vs.flatMap wordBytes ++ rest) := rfl
    rw [hword, List.length_cons, takeWords, ih]
    simp only [ScratchMemory.wordOf_bytes]

section
variable (rest : List Byte)

theorem parseOp_write (a v : Word) : parseOp ((Op.write a v).bytes ++ rest) = some (.write a v, rest) := by
  simp [Op.bytes, wordBytes, parseOp, parseWrite, ScratchMemory.wordOf_bytes]

theorem parseOp_writeBlock {a : Word} {inc : Bool} {vs : List Word} (h : (Op.writeBlock a inc vs).inRange = true) :
    parseOp ((Op.writeBlock a inc vs).bytes ++ rest) = some (.writeBlock a inc vs, rest) := by
  obtain ⟨hlo, hhi⟩ := of_decide_eq_true h
  have hcount := within_byteOf hlo hhi (by decide)
  simp [Op.bytes, wordBytes.eq_1 a, parseOp, parseWriteBlock, ScratchMemory.wordOf_bytes, opFlag_flagByte, hcount, takeWords_wordBytes]

theorem parseOp_read {a : Word} {n : Nat} {inc : Bool} (h : (Op.read a n inc).inRange = true) :
    parseOp ((Op.read a n inc).bytes ++ rest) = some (.read a n inc, rest) := by
  obtain ⟨hlo, hhi⟩ := of_decide_eq_true h
  have hcount := within_byteOf hlo hhi (by decide)
  simp [Op.bytes, wordBytes, parseOp, parseRead, ScratchMemory.wordOf_bytes, opFlag_flagByte, hcount]

theorem parseOp_modify (a k o : Word) (ret : Bool) :
    parseOp ((Op.modify a k o ret).bytes ++ rest) = some (.modify a k o ret, rest) := by
  simp [Op.bytes, wordBytes, parseOp, parseModify, ScratchMemory.wordOf_bytes, opFlag_flagByte]

theorem parseOp_poll {a k w : Word} {i t : Nat} (h : (Op.poll a k w i t).inRange = true) :
    parseOp ((Op.poll a k w i t).bytes ++ rest) = some (.poll a k w i t, rest) := by
  obtain ⟨hi, hi', ht, ht'⟩ := of_decide_eq_true h
  have hinterval := within_mod (k := 65536) hi hi' (by decide)
  have hattempts := within_mod (k := 65536) ht ht' (by decide)
  simp [-BitVec.setWidth_ofNat_of_le, Op.bytes, natBytes, wordBytes, parseOp, parsePoll, ScratchMemory.wordOf_bytes, hinterval, hattempts]

theorem parseOp_scan {a key mask : Word} {n : Nat} {inc req : Bool} {c : ScanCond} (h : (Op.scan a n inc key mask c req).inRange = true) :
    parseOp ((Op.scan a n inc key mask c req).bytes ++ rest) = some (.scan a n inc key mask c req, rest) := by
  obtain ⟨hlo, hhi⟩ := of_decide_eq_true h
  have hcount := within_byteOf hlo hhi (by decide)
  cases c <;>
    simp [Op.bytes, wordBytes, parseOp, parseScan, scanCondOf, ScratchMemory.wordOf_bytes, opFlag_flagByte, hcount]

theorem parseOp_wait {l : Fin 8} {t : Nat} (h : (Op.waitAttention l t).inRange = true) :
    parseOp ((Op.waitAttention l t).bytes ++ rest) = some (.waitAttention l t, rest) := by
  have ht : t ≤ 65535 := of_decide_eq_true h
  have htimeout : (BitVec.ofNat 16 t).toNat = t := by
    rw [BitVec.toNat_ofNat]
    exact Nat.mod_eq_of_lt (by omega)
  simp [-BitVec.setWidth_ofNat_of_le, Op.bytes, natBytes, wordBytes, parseOp, parseWait, Attention.lineOf_byteOf, ScratchMemory.wordOf_bytes, htimeout]

theorem parseOp_delay {i : Nat} (h : (Op.delay i).inRange = true) : parseOp ((Op.delay i).bytes ++ rest) = some (.delay i, rest) := by
  obtain ⟨hlo, hhi⟩ := of_decide_eq_true h
  have hinterval := within_mod (k := 65536) hlo hhi (by decide)
  simp [-BitVec.setWidth_ofNat_of_le, Op.bytes, natBytes, wordBytes, parseOp, parseDelay, ScratchMemory.wordOf_bytes, hinterval]

theorem parseOp_bytes {op : Op} (h : op.inRange = true) : parseOp (op.bytes ++ rest) = some (op, rest) := by
  cases op with
  | write a v => exact parseOp_write rest a v
  | writeBlock => exact parseOp_writeBlock rest h
  | read => exact parseOp_read rest h
  | modify a k o ret => exact parseOp_modify rest a k o ret
  | poll => exact parseOp_poll rest h
  | scan => exact parseOp_scan rest h
  | waitAttention => exact parseOp_wait rest h
  | delay => exact parseOp_delay rest h

end

theorem parseOps_bytes {ops : List Op} (h : ops.all Op.inRange = true) : parseOps ops.length (ops.flatMap Op.bytes) = some ops := by
  induction ops with
  | nil => rfl
  | cons op ops ih =>
    rw [List.all_cons, Bool.and_eq_true_iff] at h
    obtain ⟨hop, hops⟩ := h
    rw [List.flatMap_cons, List.length_cons, parseOps, parseOp_bytes _ hop]
    dsimp only [Option.bind_eq_bind, Option.bind_some]
    rw [ih hops]
    rfl

end Sys2Proof.Requests
end

section
namespace Sys2Proof.Requests

open Sys2Proof Sys2Proof.Machine Sys2Proof.Windows

/-! ## An accepted SUBMIT (R1, R16, R17, R20, R21, R151) -/

section
variable {s : State}

/-- The bytes of a SUBMIT (Table 11–3). -/
def submitMessage (x : Submission) : Message :=
  [0x01#8] ++ wordBytes x.tag ++ [byteOf x.window.val, if x.cls = .urgent then 1#8 else 0#8, flagByte x.barrier, byteOf x.ops.length]
    ++ x.ops.flatMap Op.bytes

theorem length_submitMessage (x : Submission) : 7 ≤ (submitMessage x).length := by
  simp [submitMessage, wordBytes]

theorem classOf_byte (cls : TxClass) : classOf (if cls = .urgent then 1#8 else 0#8) = some cls := by cases cls <;> rfl

theorem submittedOps_submitMessage {x : Submission} (hlo : 1 ≤ x.ops.length) (hhi : x.ops.length ≤ 16)
    (hr : x.ops.all Op.inRange = true) : submittedOps (submitMessage x) = some x.ops := by
  have hcount : (byteAt (submitMessage x) 6).toNat = x.ops.length := by
    show (byteOf x.ops.length).toNat = x.ops.length
    rw [byteOf, BitVec.toNat_ofNat]
    exact Nat.mod_eq_of_lt (by omega)
  have hrecords : (submitMessage x).drop 7 = x.ops.flatMap Op.bytes := rfl
  unfold submittedOps
  rw [hcount, hrecords, if_pos ⟨hlo, hhi⟩, parseOps_bytes hr]

/-- A SUBMIT is read back from its bytes. -/
theorem reads_submitMessage {x : Submission} (htag : x.tag ≠ 0#16) (hst : (s.window x.window).state = .enabled)
    (hlo : 1 ≤ x.ops.length) (hhi : x.ops.length ≤ 16) (hr : x.ops.all Op.inRange = true) : Reads s (submitMessage x) x := by
  have hfield : wordAt (submitMessage x) 1 = x.tag := ScratchMemory.wordOf_bytes x.tag
  exact ⟨hfield.symm, hfield ▸ htag, windowOf_byteOf x.window, hst, submittedOps_submitMessage hlo hhi hr, classOf_byte x.cls,
    yesNo_flagByte x.barrier⟩

end

/-! ### The place of the new record (R16, R17) -/

section
variable {q : List Record} {r : Record}

theorem queuePosition_of_normal (h : r.cls = .normal) : queuePosition q r = q.length := by
  unfold queuePosition
  rw [h]

theorem queuePosition_le (q : List Record) (r : Record) : queuePosition q r ≤ q.length := by
  unfold queuePosition
  split
  · exact le_rfl
  · exact List.findIdx_le_length

/-- No member before an URGENT record is one that it goes before. -/
theorem not_of_mem_take_queuePosition (h : r.cls = .urgent) :
    ∀ x ∈ q.take (queuePosition q r), ¬ (x.state = .queued ∧ x.cls = .normal ∧ x.epoch = r.epoch) := by
  intro x hx
  obtain ⟨i, hi, rfl⟩ := List.mem_take_iff_getElem.mp hx
  have hlt : i < queuePosition q r := lt_of_lt_of_le hi (Nat.min_le_left _ _)
  unfold queuePosition at hlt
  rw [h] at hlt
  have hnot := List.not_of_lt_findIdx hlt
  simpa [and_assoc] using hnot

/-- The member next behind an URGENT record is one that it goes before. -/
theorem of_head_drop_queuePosition (h : r.cls = .urgent) :
    ∀ x ∈ (q.drop (queuePosition q r)).head?, x.state = .queued ∧ x.cls = .normal ∧ x.epoch = r.epoch := by
  intro x hx
  unfold queuePosition at hx
  rw [h, List.head?_drop] at hx
  obtain ⟨hlt, rfl⟩ := List.getElem?_eq_some_iff.mp hx
  have hfound := List.findIdx_getElem (w := hlt)
  simpa [and_assoc] using hfound

end

/-! ### The record is created -/

theorem checkRoom_eq_none {s : State} {x : Submission} (hw : x.ops.all (Op.fitsWidth (s.window x.window).profile.width) = true)
    (ha : x.ops.all (Op.fitsAddress (s.window x.window).profile.addressBits) = true)
    (hres : resultSize (s.window x.window).profile.width x.ops ≤ 192) (hfresh : ∀ r ∈ s.live, r.tag ≠ x.tag)
    (hpool : s.live.length < 48) (hreach : x.barrier = true → s.epochReach ≤ 94)
    (hq : (s.queue x.window).length < (s.window x.window).profile.queueLimit) : s.checkRoom x = none := by
  have htag : ¬ s.tagLive x.tag = true := fun h => by
    obtain ⟨r, hr, e⟩ := tagLive_iff.mp h
    exact hfresh r hr e
  have hroom : ¬ s.poolFull x.barrier = true := fun h => by
    rcases poolFull_iff.mp h with hfull | ⟨hbarrier, hfar⟩
    · omega
    · have := hreach hbarrier
      omega
  have hsize : ¬ Config.resultLimit < resultSize (s.window x.window).profile.width x.ops := Nat.not_lt.mpr hres
  unfold State.checkRoom
  dsimp only
  rw [if_neg (by simp [hw]), if_neg (by simp [ha]), if_neg hsize, if_neg htag, if_neg hroom, if_neg (Nat.not_le.mpr hq)]

/-- The new record stands at its place, the counter has advanced for a barrier, and the reply gives tag, epoch and place (R151). -/
theorem acceptSubmit_pop {s : State} (hwait : s.dsp.holdWait = none) (rest : List Message) (x : Submission) {r : Record}
    (hr : (s.pop rest).newRecord x = r) :
    (s.pop rest).acceptSubmit x = State.answered
      { (s.setQueue x.window ((s.queue x.window).take (queuePosition (s.queue x.window) r) ++
          r :: (s.queue x.window).drop (queuePosition (s.queue x.window) r))) with
        epoch := if x.barrier then s.epoch + 2 else s.epoch }
      rest 0x01#8 .accepted (wordBytes x.tag ++ wordBytes r.epoch ++ [byteOf (queuePosition (s.queue x.window) r)]) := by
  subst hr
  exact reply_pop (s := { s.setQueue x.window _ with epoch := _ }) hwait ..

/-- Settles O23: the message reads back as its record, which passes every check and joins its queue. -/
theorem submitAccepted : Obligations.SubmitAccepted := by
  intro s rest tag w cls barrier ops h htag hst hlo hhi hr hw ha hres hfresh hpool hreach hq r
  have ⟨_, _, hwait⟩ := h
  have hreads := reads_submitMessage (s := s) (x := ⟨tag, w, cls, barrier, ops⟩) htag hst hlo hhi hr
  have hroom := checkRoom_eq_none (s := s) (x := ⟨tag, w, cls, barrier, ops⟩) hw ha hres hfresh hpool hreach hq
  have hcheck := checkSubmit_of_reads hreads
  rw [hroom] at hcheck
  have hlength : ((s.queue w).take (queuePosition (s.queue w) r)).length = queuePosition (s.queue w) r := by
    rw [List.length_take]
    exact Nat.min_eq_left (queuePosition_le _ r)
  refine ⟨_, _, (List.take_append_drop (queuePosition (s.queue w) r) (s.queue w)).symm, fun hn => ?_, fun hu => ?_, ?_⟩
  · rw [queuePosition_of_normal (r := r) hn, List.drop_length]
  · exact ⟨not_of_mem_take_queuePosition (r := r) hu, of_head_drop_queuePosition (r := r) hu⟩
  · rw [hlength]
    refine (exec_submit h rfl).trans (congrArg Host.Outcome.next ?_)
    exact (submit_of_ok (s := s.pop rest) (length_submitMessage _) hcheck).trans (acceptSubmit_pop hwait rest _ rfl)

end Sys2Proof.Requests
end

section
namespace Sys2Proof.Reports

open Sys2Proof Sys2Proof.Machine Sys2Proof.Attention

/-! PROOF. Reports and the Report Queue (O45, O46).

The rows of the Reporter act on the state as it stands when their own step is due next, or when nothing is (log entry 21). -/

section
variable {s : State} {d : Due} {n : Nat}

/-! ## A step that is due next -/

/-- A step that leaves the clock where it is has nothing due before it when it is due next, and when nothing is. -/
theorem upTo_of_due (hnow : (s.takeDue d).now = s.now) (h : s.due = none ∨ s.due = some d) : s.upTo d = s := by
  unfold State.due at h
  rw [← hnow] at h
  exact h.elim upTo_of_dueBy_none upTo_of_dueBy

theorem exec_reportTake_of_due (h : s.due = none ∨ s.due = some .report) : exec .reportTake s = .next s.takeReport := by
  have hnow : (s.takeDue .report).now = s.now := by simp [State.takeDue]
  show Host.Outcome.next (s.upTo .report).takeReport = _
  rw [upTo_of_due hnow h]

theorem exec_reportAdmission_of_due (h : s.due = none ∨ s.due = some .admission) : exec .reportAdmission s = .next s.admitOne := by
  have hnow : (s.takeDue .admission).now = s.now := by simp [State.takeDue]
  show Host.Outcome.next (s.upTo .admission).admitOne = _
  rw [upTo_of_due hnow h]

/-- An admission and the taking of a report are due only under their own conditions (R165, R167). -/
theorem can_of_dueBy (h : s.dueBy n = some d) : (d = .admission → s.canAdmit = true) ∧ (d = .report → s.canReport = true) := by
  unfold State.dueBy at h
  repeat' split at h
  all_goals constructor <;> rintro rfl <;> simp_all

theorem canAdmit_of_due (h : s.due = some .admission) : s.canAdmit = true := (can_of_dueBy h).1 rfl

theorem canReport_of_due (h : s.due = some .report) : s.canReport = true := (can_of_dueBy h).2 rfl

/-! ## The taking of the head report (R165, R182) -/

theorem canReport_iff : s.canReport = true ↔ s.lnk.state = .up ∧ s.rpt.queue ≠ [] ∧ s.lnk.replay.length < 4 := by
  show _ ↔ s.lnk.state = .up ∧ s.rpt.queue ≠ [] ∧ s.lnk.replay.length < Config.sendWindow
  simp [State.canReport, and_assoc]

theorem takeReport_of_not (h : s.canReport = false) : s.takeReport = s := by
  simp [State.takeReport, h]

/-- The head report stands in a new frame at the tail of the replay buffer. -/
theorem takeReport_of_head {r : Report} {rest : List Report} (h : s.canReport = true) (hq : s.rpt.queue = r :: rest) :
    s.takeReport = State.transmit { s with
      rpt.queue := rest
      lnk.replay := s.lnk.replay ++ [{ seq := s.lnk.txNext, report := r, sent := .notBegun }]
      lnk.txNext := s.lnk.txNext + 1 } := by
  simp [State.takeReport, h, hq]

end

/-- Settles O45: the row acts on the state as it stands, by the condition of R165. -/
theorem reportTake : Obligations.ReportTake := by
  intro s
  refine ⟨fun r rest hup hq hlen hdue => ?_, fun hdue => ?_, fun hdue => canReport_iff.mp (canReport_of_due hdue)⟩
  · have hcan : s.canReport = true := canReport_of_due hdue
    rw [exec_reportTake_of_due (.inr hdue), takeReport_of_head hcan hq]
  · obtain ⟨-, -, -, hcan, -⟩ := dueBy_eq_none_iff.mp hdue
    have hnot : ¬ (s.lnk.state = .up ∧ s.rpt.queue ≠ [] ∧ s.lnk.replay.length < 4) := by
      rw [← canReport_iff, hcan]
      exact Bool.false_ne_true
    refine ⟨?_, by rw [exec_reportTake_of_due (.inl hdue), takeReport_of_not hcan]⟩
    rwa [not_and_or, not_and_or, ne_eq, not_not, not_lt] at hnot

end Sys2Proof.Reports
end

section
namespace Sys2Proof.Reports

open Sys2Proof Sys2Proof.Machine Sys2Proof.Records Sys2Proof.Operations Sys2Proof.Attention

/-! ## The eligible lines and the best of them (R136, R137) -/

section
variable {s : State} {l : Fin 8}

theorem eligible_iff {x : Line} :
    x.eligible = true ↔ x.count ≠ 0 ∧ x.report = true ∧ x.outstanding = false ∧ x.waiters = [] := by
  simp [Line.eligible, Nat.pos_iff_ne_zero, and_assoc]

theorem anyEligible_iff : s.anyEligible = true ↔ ∃ l, (s.line l).eligible = true := by
  simp [State.anyEligible, mem_allLines]

/-- Line `l` is eligible and comes before every other eligible line: its priority is higher, or the same and its stamp smaller. -/
def Best (s : State) (l : Fin 8) : Prop :=
  (s.line l).eligible = true ∧ ∀ k, k ≠ l → (s.line k).eligible = true →
    (s.line k).priority < (s.line l).priority ∨
      ((s.line k).priority = (s.line l).priority ∧ (s.line l).stamp.getD 0 < (s.line k).stamp.getD 0)

theorem betterLine_iff {k : Fin 8} : betterLine s l k = true ↔
    (s.line k).priority < (s.line l).priority ∨
      ((s.line l).priority = (s.line k).priority ∧ (s.line l).stamp.getD 0 < (s.line k).stamp.getD 0) := by
  simp [betterLine]

/-- The choice ends at a member that is better than each other one, none of them better than it. -/
theorem foldl_betterOf_of_best {better : Fin 8 → Fin 8 → Bool} (ls : List (Fin 8)) (b : Fin 8) (hmem : l ∈ b :: ls)
    (hbest : ∀ k ∈ b :: ls, k ≠ l → better l k = true ∧ better k l = false) :
    ls.foldl (betterOf better) (some b) = some l := by
  induction ls generalizing b with
  | nil => rw [List.mem_singleton.mp hmem, List.foldl_nil]
  | cons k ls ih =>
    rw [List.foldl_cons]
    by_cases hkb : better k b = true
    · rw [show betterOf better (some b) k = some k by simp [betterOf, hkb]]
      refine ih k ?_ fun j hj => hbest j (List.mem_cons_of_mem _ hj)
      rcases List.mem_cons.mp hmem with rfl | hmem
      · have hk : k = l := by
          by_contra hne
          rw [(hbest k (by simp) hne).2] at hkb
          cases hkb
        rw [hk]
        exact List.mem_cons_self
      · exact hmem
    · rw [show betterOf better (some b) k = some b by simp [betterOf, hkb]]
      refine ih b ?_ fun j hj => hbest j (List.cons_subset_cons b (List.subset_cons_self k ls) hj)
      by_cases hb : b = l
      · rw [hb]
        exact List.mem_cons_self
      · have hk : l ≠ k := by
          rintro rfl
          exact hkb (hbest b List.mem_cons_self hb).1
        simpa [Ne.symm hb, hk] using hmem

theorem pickLine_of_best {passes : Fin 8 → Bool} {better : Fin 8 → Fin 8 → Bool} (hl : passes l = true)
    (hbest : ∀ k, passes k = true → k ≠ l → better l k = true ∧ better k l = false) : pickLine passes better = some l := by
  have hmem : l ∈ allLines.filter passes := List.mem_filter.mpr ⟨mem_allLines l, hl⟩
  have hpasses : ∀ k ∈ allLines.filter passes, passes k = true := fun k hk => (List.mem_filter.mp hk).2
  rw [pickLine_eq]
  cases h : allLines.filter passes with
  | nil => rw [h] at hmem; cases hmem
  | cons b ls =>
    rw [h] at hmem hpasses
    exact foldl_betterOf_of_best ls b hmem fun k hk => hbest k (hpasses k hk)

theorem Best.bestLine (h : Best s l) : s.bestLine = some l := by
  obtain ⟨hl, hothers⟩ := h
  refine pickLine_of_best hl fun k hk hne => ?_
  have hbetter := hothers k hne hk
  rw [← Bool.not_eq_true, betterLine_iff, betterLine_iff]
  omega

theorem Best.anyEligible (h : Best s l) : s.anyEligible = true := anyEligible_iff.mpr ⟨l, h.1⟩

/-- A line's place among the eligible lines: by priority, and among equals the smaller stamp above the larger. -/
def noticeRank (s : State) (l : Fin 8) : ℕ ×ₗ ℕᵒᵈ := toLex ((s.line l).priority, OrderDual.toDual ((s.line l).stamp.getD 0))

theorem noticeRank_le {k : Fin 8} : noticeRank s k ≤ noticeRank s l ↔
    (s.line k).priority < (s.line l).priority ∨
      ((s.line k).priority = (s.line l).priority ∧ (s.line l).stamp.getD 0 ≤ (s.line k).stamp.getD 0) :=
  Prod.Lex.toLex_le_toLex

/-- Distinct stamps leave no tie: the greatest of the eligible lines by priority, then by the smaller stamp, is the best. -/
theorem exists_best (hr : Ranked s) (h : s.anyEligible = true) : ∃ l, Best s l := by
  obtain ⟨e, he⟩ := anyEligible_iff.mp h
  obtain ⟨l, hl, hmax⟩ := Finset.exists_max_image (Finset.univ.filter fun k => (s.line k).eligible = true) (noticeRank s)
    ⟨e, Finset.mem_filter.mpr ⟨Finset.mem_univ e, he⟩⟩
  have hel : (s.line l).eligible = true := (Finset.mem_filter.mp hl).2
  have hstamp : ∀ k, (s.line k).eligible = true → ∃ n, (s.line k).stamp = some n := fun k hk =>
    Option.isSome_iff_exists.mp ((hr.held k).mpr (Nat.pos_of_ne_zero (eligible_iff.mp hk).1))
  refine ⟨l, hel, fun k hne hk => ?_⟩
  obtain ⟨m, hm⟩ := hstamp l hel
  obtain ⟨n, hn⟩ := hstamp k hk
  have hdistinct : m ≠ n := by
    rintro rfl
    exact hne (hr.distinct k l m hn hm)
  have hle := noticeRank_le.mp (hmax k (Finset.mem_filter.mpr ⟨Finset.mem_univ k, hk⟩))
  simp only [hm, hn, Option.getD_some] at hle ⊢
  omega

/-! ## The source that is admitted (R168) -/

theorem canAdmit_iff : s.canAdmit = true ↔ s.rpt.queue.length < 32 ∧
    ¬ (s.dsp.slot = none ∧ s.rpt.backlog = [] ∧ s.rpt.overrun = none ∧ s.anyEligible = false) := by
  show _ ↔ s.rpt.queue.length < Config.reportEntries ∧ _
  simp only [State.canAdmit, State.entryFree, State.sourceWaits, Bool.and_eq_true, decide_eq_true_eq, Bool.or_eq_true,
    Option.isSome_iff_ne_none, ← Bool.not_eq_true]
  tauto

/-- Attention has not been kept waiting to the limit, or no line is eligible. -/
def Unstarved (s : State) : Prop := s.rpt.starvation ≠ 4 ∨ s.anyEligible = false

theorem Unstarved.not_first (h : Unstarved s) : ¬ (s.rpt.starvation = Config.starvationLimit ∧ s.anyEligible = true) := by
  rintro ⟨hlimit, hany⟩
  exact h.elim (fun hne => hne hlimit) fun hnone => by rw [hany] at hnone; cases hnone

theorem admittedSource_of_slot {r : Reply} (h : Unstarved s) (hr : s.dsp.slot = some r) : s.admittedSource = some .reply := by
  rw [State.admittedSource, if_neg h.not_first, hr]
  rfl

theorem admittedSource_of_backlog (h : Unstarved s) (hslot : s.dsp.slot = none) (hb : s.rpt.backlog ≠ []) :
    s.admittedSource = some .completion := by
  rw [State.admittedSource, if_neg h.not_first, hslot, if_neg (by simp), if_pos hb]

theorem admittedSource_of_overrun {o : Overrun} (h : Unstarved s) (hslot : s.dsp.slot = none) (hb : s.rpt.backlog = [])
    (ho : s.rpt.overrun = some o) : s.admittedSource = some .shareOverrun := by
  rw [State.admittedSource, if_neg h.not_first, hslot, if_neg (by simp), if_neg (by simp [hb]), ho]
  rfl

theorem admittedSource_of_eligible (hany : s.anyEligible = true)
    (h : s.rpt.starvation = 4 ∨ (s.dsp.slot = none ∧ s.rpt.backlog = [] ∧ s.rpt.overrun = none)) :
    s.admittedSource = some .attention := by
  rcases h with hlimit | ⟨hslot, hb, ho⟩
  · rw [State.admittedSource, if_pos ⟨hlimit, hany⟩]
  · simp [State.admittedSource, hany, hslot, hb, ho]

/-! ## One admission (R138, R163, R167 to R169) -/

theorem admitOne_of_not (h : s.canAdmit = false) : s.admitOne = s := by
  unfold State.admitOne
  split
  · have hwaits : s.sourceWaits = false := by simpa [State.canAdmit, *] using h
    have hnone : s.admittedSource = none := by
      simp only [State.sourceWaits, Bool.or_eq_false_iff, decide_eq_false_iff_not] at hwaits
      simp [State.admittedSource, hwaits]
    rw [hnone]
  · rfl

/-- The Report Queue with one report more, of the next serial. -/
def pushed (s : State) (c : ReportContent) : List Report := s.rpt.queue ++ [{ serial := s.rpt.serial, content := c }]

/-- The starvation counter after an admission before attention. -/
def starvedBy (s : State) : Nat := if s.anyEligible then min 4 (s.rpt.starvation + 1) else 0

theorem admitOne_of_reply {r : Reply} (hcan : s.canAdmit = true) (h : Unstarved s) (hr : s.dsp.slot = some r) :
    s.admitOne = { s with
      dsp.slot := none, rpt.queue := pushed s (.reply r), rpt.serial := s.rpt.serial + 1, rpt.starvation := starvedBy s } := by
  rw [State.admitOne, if_pos (Bool.and_eq_true_iff.mp hcan).1, admittedSource_of_slot h hr]
  simp only [State.admitReply, hr]
  rfl

theorem admitOne_of_backlog {r : Record} {rest : List Record} (hcan : s.canAdmit = true) (h : Unstarved s) (hslot : s.dsp.slot = none)
    (hb : s.rpt.backlog = r :: rest) :
    s.admitOne = { s with
      rpt.backlog := rest, rpt.queue := pushed s r.completionReport, rpt.serial := s.rpt.serial + 1
      rpt.starvation := starvedBy s } := by
  rw [State.admitOne, if_pos (Bool.and_eq_true_iff.mp hcan).1, admittedSource_of_backlog h hslot (by simp [hb])]
  simp only [State.admitCompletion, hb]
  rfl

theorem admitOne_of_overrun {o : Overrun} (hcan : s.canAdmit = true) (h : Unstarved s) (hslot : s.dsp.slot = none)
    (hb : s.rpt.backlog = []) (ho : s.rpt.overrun = some o) :
    s.admitOne = { s with
      rpt.overrun := none, rpt.queue := pushed s (.shareOverrun o.limit o.window o.count), rpt.serial := s.rpt.serial + 1
      rpt.starvation := starvedBy s } := by
  rw [State.admitOne, if_pos (Bool.and_eq_true_iff.mp hcan).1, admittedSource_of_overrun h hslot hb ho]
  simp only [State.admitOverrun, ho]
  rfl

/-- The Reporter's items have no part in what has become of a line. -/
theorem lineCleared_setReporter {t : State} {x : Line} (f : Reporter → Reporter) (h : s.lineCleared t l x) :
    State.lineCleared { s with rpt := f s.rpt } { t with rpt := f t.rpt } l x := by
  obtain ⟨hframe, hself, hothers⟩ := h
  refine ⟨?_, hself, hothers⟩
  rw [hframe]

/-- The notice of the best line is admitted, and the line has lost its events. -/
theorem admitOne_of_best (hcan : s.canAdmit = true) (hl : Best s l)
    (h : s.rpt.starvation = 4 ∨ (s.dsp.slot = none ∧ s.rpt.backlog = [] ∧ s.rpt.overrun = none)) :
    State.lineCleared { s with
        rpt.queue := pushed s ((s.line l).notice l), rpt.serial := s.rpt.serial + 1, rpt.starvation := 0 }
      s.admitOne l { s.line l with lost := false, outstanding := true } := by
  rw [State.admitOne, if_pos (Bool.and_eq_true_iff.mp hcan).1, admittedSource_of_eligible hl.anyEligible h]
  simp only [State.admitAttention, hl.bestLine]
  have htaken := lineCleared_lowerCount (s.pushReport ((s.line l).notice l)) l
    (x := { s.line l with lost := false, outstanding := true }) rfl
  exact lineCleared_setReporter (fun r => { r with starvation := 0 }) htaken

end

/-- Settles O46: the row acts on the state as it stands, and the source that comes first is admitted; the best line is the one that
the arbiter's choice ends at. -/
theorem reportAdmission : Obligations.ReportAdmission := by
  intro s some? push starved best
  refine ⟨?_, fun hranked => exists_best ((stampsRanked_iff s).mp hranked), fun hdue => ?_, fun hdue => ?_⟩
  · exact anyEligible_iff.trans (exists_congr fun l => eligible_iff)
  · obtain ⟨-, -, hcan, -⟩ := dueBy_eq_none_iff.mp hdue
    refine ⟨?_, by rw [exec_reportAdmission_of_due (.inl hdue), admitOne_of_not hcan]⟩
    rw [← Bool.not_eq_true, canAdmit_iff, not_and_or, not_not, not_lt] at hcan
    exact hcan
  · have hcan : s.canAdmit = true := canAdmit_of_due hdue
    rw [exec_reportAdmission_of_due (.inr hdue)]
    refine ⟨(canAdmit_iff.mp hcan).1, fun hu => ⟨fun r hr => ?_, fun r rest hslot hb => ?_, fun o hslot hb ho => ?_⟩,
      fun l hl hfirst => ⟨_, rfl, admitOne_of_best hcan hl hfirst⟩⟩
    · exact congrArg Host.Outcome.next (admitOne_of_reply hcan hu hr)
    · exact congrArg Host.Outcome.next (admitOne_of_backlog hcan hu hslot hb)
    · exact congrArg Host.Outcome.next (admitOne_of_overrun hcan hu hslot hb ho)

end Sys2Proof.Reports
end

section
namespace Sys2Proof.HostLink

open Sys2Proof Sys2Proof.Machine

/-! PROOF. The host link (O18, O19, O37 to O44): the bytes of frames and the bits on the line, the frames of the host, the transmitter, and
the timers of the link. -/

/-! ## The CRC, bit by bit (R175) -/

/-- One bit of the CRC as R175 gives it: the generator is added where the bit shifted out differs from the bit taken in. -/
def crcBit (c : Word) (bit : Bool) : Word := if c.getLsbD 15 = bit then c <<< 1 else (c <<< 1) ^^^ 0x1021#16

/-- The register shifted with bits laid over it takes in the top bit, and the other bits lie one place higher. -/
theorem crcShift_xor (c x : Word) : crcShift (c ^^^ x) = crcBit c (x.getLsbD 15) ^^^ (x <<< 1) := by
  have hmsb : (c ^^^ x).msb = (c.getLsbD 15 ^^ x.getLsbD 15) := by simp [BitVec.msb_eq_getLsbD_last]
  unfold crcShift crcBit
  rw [hmsb, BitVec.shiftLeft_xor_distrib]
  by_cases h : c.getLsbD 15 = x.getLsbD 15
  · have hbits : ¬ (c.getLsbD 15 ^^ x.getLsbD 15) = true := by rw [h, Bool.xor_self]; exact Bool.false_ne_true
    rw [if_neg hbits, if_pos h]
  · have hbits : (c.getLsbD 15 ^^ x.getLsbD 15) = true := by simpa using h
    rw [if_pos hbits, if_neg h, BitVec.xor_assoc, BitVec.xor_assoc, BitVec.xor_comm (x <<< 1)]

/-- The register shifted `n` times with bits laid over it takes in the upper `n` of them, the topmost first. -/
theorem iterate_crcShift_xor (c x : Word) {n : Nat} (hn : n ≤ 16) :
    crcShift^[n] (c ^^^ x) = ((List.range n).map fun i => x.getLsbD (15 - i)).foldl crcBit c ^^^ (x <<< n) := by
  induction n with
  | zero => simp
  | succ n ih =>
    have htop : (x <<< n).getLsbD 15 = x.getLsbD (15 - n) := by
      rw [BitVec.getLsbD_shiftLeft]
      have : ¬ 15 < n := by omega
      simp [this]
    rw [Function.iterate_succ_apply', ih (by omega), crcShift_xor, htop, ← BitVec.shiftLeft_add, List.range_succ]
    simp

/-- A byte is taken in bit by bit, most significant first. -/
theorem crcByte_eq (c : Word) (b : Byte) : crcByte c b = ((List.range 8).map fun i => b.getLsbD (7 - i)).foldl crcBit c := by
  have hbits : ∀ i ∈ List.range 8, (b.setWidth 16 <<< 8).getLsbD (15 - i) = b.getLsbD (7 - i) := by
    intro i hi
    have hi : i < 8 := List.mem_range.mp hi
    have hplace : 15 - i = 8 + (7 - i) := by omega
    rw [hplace, BitVec.getLsbD_shiftLeft, BitVec.getLsbD_setWidth]
    have hlow : 8 + (7 - i) < 16 := by omega
    have hin : 7 - i < 16 := by omega
    simp [hlow, hin]
  have hgone : (b.setWidth 16 <<< 8) <<< 8 = 0#16 := by
    rw [← BitVec.shiftLeft_add]
    exact BitVec.shiftLeft_eq_zero (by omega)
  calc crcByte c b = crcShift^[8] (c ^^^ (b.setWidth 16 <<< 8)) := rfl
    _ = ((List.range 8).map fun i => (b.setWidth 16 <<< 8).getLsbD (15 - i)).foldl crcBit c := by
      rw [iterate_crcShift_xor _ _ (by omega), hgone, BitVec.xor_zero]
    _ = _ := by rw [List.map_congr_left hbits]

theorem crc_eq_foldl_bits (bytes : List Byte) :
    crc bytes = (bytes.flatMap fun b => (List.range 8).map fun i => b.getLsbD (7 - i)).foldl crcBit 0xFFFF#16 := by
  have hbytes : crcByte = fun c b => ((List.range 8).map fun i => b.getLsbD (7 - i)).foldl crcBit c :=
    funext₂ crcByte_eq
  rw [List.foldl_flatMap, ← hbytes]
  rfl

/-- The CRC of the check text that R175 names. -/
theorem crc_checkText : crc [0x31#8, 0x32#8, 0x33#8, 0x34#8, 0x35#8, 0x36#8, 0x37#8, 0x38#8, 0x39#8] = 0x29B1#16 := by
  simp [crc, crcByte, crcShift, BitVec.msb_eq_decide]

/-! ## A frame is gathered as it was sent (R174, R175, Table 11–1) -/

section
variable {k : Link} {b len : Byte} {more : List Byte} {since now : Nat} {msg : Message} {control : Byte}

theorem receive_hunting (hk : k.receiver = .hunting) : k.receive b now = { k with receiver := hunt b now } := by
  simp only [Link.receive, hk]

theorem receive_length (hk : k.receiver = .inside [] since) : k.receive b now =
    { k with receiver := if 2 ≤ b.toNat ∧ b.toNat ≤ 246 then .inside [b] now else hunt b now } := by
  simp only [Link.receive, hk]
  split <;> rfl

theorem receive_more (hk : k.receiver = .inside (len :: more) since) (hlen : more.length + 2 ≠ len.toNat + 3) :
    k.receive b now = { k with receiver := .inside (len :: more ++ [b]) now } := by
  have hnot : (len :: (more ++ [b])).length ≠ len.toNat + 3 := by simpa using hlen
  simp only [Link.receive, hk]
  exact if_neg hnot

theorem receive_last (hk : k.receiver = .inside (len :: more) since) (hlen : more.length + 2 = len.toNat + 3) :
    k.receive b now = { k with receiver := .hunting, gathered := some (len :: more ++ [b]) } := by
  have hlast : (len :: (more ++ [b])).length = len.toNat + 3 := by simpa using hlen
  simp only [Link.receive, hk]
  exact if_pos hlast

/-- The rest of a frame, byte by byte to its last, is gathered behind what has come. -/
theorem foldl_receive_inside {bytes : List Byte} (hk : k.receiver = .inside (len :: more) since) (hne : bytes ≠ [])
    (hlen : more.length + 1 + bytes.length = len.toNat + 3) :
    bytes.foldl (fun k b => k.receive b now) k =
      { k with receiver := .hunting, gathered := some (len :: more ++ bytes) } := by
  induction bytes generalizing k more since with
  | nil => exact absurd rfl hne
  | cons b rest ih =>
    rw [List.length_cons] at hlen
    cases rest with
    | nil => exact receive_last hk hlen
    | cons c rest =>
      rw [List.length_cons] at hlen
      have hstep : k.receive b now = _ := receive_more hk (by omega)
      rw [List.foldl_cons, hstep, ih (more := more ++ [b]) rfl (by simp) (by simp; omega)]
      simp

/-- A sync byte and a Length in its range, received while hunting, begin a frame. -/
theorem receive_sync_length (hk : k.receiver = .hunting) (hmin : 2 ≤ len.toNat) (hmax : len.toNat ≤ 246) :
    (k.receive syncByte now).receive len now = { k with receiver := .inside [len] now } := by
  have hsync : k.receive syncByte now = { k with receiver := .inside [] now } := receive_hunting hk
  rw [hsync, receive_length rfl, if_pos ⟨hmin, hmax⟩]

/-- The bytes of a gathered frame: all of the frame but its sync byte. -/
def gatheredBytes (control sa : Byte) (msg : Message) : List Byte := frameBody control sa msg ++ crcBytes (frameBody control sa msg)

/-- The bytes of a frame with a Message of up to 244 bytes, received while hunting, give one gathered frame. -/
theorem foldl_receive_frameBytes (hk : k.receiver = .hunting) (hmsg : msg.length ≤ 244) (sa : Byte) :
    (frameBytes control sa msg).foldl (fun k b => k.receive b now) k =
      { k with receiver := .hunting, gathered := some (gatheredBytes control sa msg) } := by
  have hlen : (byteOf (msg.length + 2)).toNat = msg.length + 2 := by
    simp only [byteOf, BitVec.toNat_ofNat]
    omega
  have hshape : frameBytes control sa msg = syncByte :: byteOf (msg.length + 2) ::
      ([control, sa] ++ msg ++ crcBytes (frameBody control sa msg)) := by
    simp [frameBytes, frameBody]
  rw [hshape, List.foldl_cons, List.foldl_cons, receive_sync_length hk (by omega) (by omega),
    foldl_receive_inside rfl (by simp) (by simp [hlen, crcBytes]; omega)]
  simp [gatheredBytes, frameBody]

theorem take_gatheredBytes (control sa : Byte) (msg : Message) :
    (gatheredBytes control sa msg).take ((gatheredBytes control sa msg).length - 2) = frameBody control sa msg := by
  simp [gatheredBytes, crcBytes]

theorem drop_gatheredBytes (control sa : Byte) (msg : Message) :
    (gatheredBytes control sa msg).drop ((gatheredBytes control sa msg).length - 2) = crcBytes (frameBody control sa msg) := by
  simp [gatheredBytes, crcBytes]

theorem frameValid_gatheredBytes (control sa : Byte) (msg : Message) : frameValid (gatheredBytes control sa msg) = true := by
  rw [frameValid, take_gatheredBytes, drop_gatheredBytes, decide_eq_true_eq]

theorem frameMessage_gatheredBytes (control sa : Byte) (msg : Message) : frameMessage (gatheredBytes control sa msg) = msg := by
  rw [frameMessage, take_gatheredBytes]
  rfl

theorem frameSeq_gatheredBytes (control : Byte) (seq ack : SeqNum) (msg : Message) :
    frameSeq (gatheredBytes control (seqAck seq ack) msg) = seq := by
  show ((seq ++ ack : Byte) >>> 4).setWidth 4 = seq
  ext i hi
  rw [BitVec.getElem_setWidth, BitVec.getLsbD_ushiftRight]
  refine (BitVec.getLsbD_append ..).trans ?_
  rw [if_neg (by omega), Nat.add_sub_cancel_left, BitVec.getLsbD_eq_getElem]

theorem frameAck_gatheredBytes (control : Byte) (seq ack : SeqNum) (msg : Message) :
    frameAck (gatheredBytes control (seqAck seq ack) msg) = ack := by
  show (seq ++ ack : Byte).setWidth 4 = ack
  ext i hi
  rw [BitVec.getElem_setWidth]
  refine (BitVec.getLsbD_append ..).trans ?_
  rw [if_pos hi, BitVec.getLsbD_eq_getElem]

end

/-- Settles O18: the CRC by its bits, and the receiver byte by byte. -/
theorem frameReadBack : Obligations.FrameReadBack := by
  refine ⟨crc_eq_foldl_bits, crc_checkText, fun _ _ _ _ => rfl, fun k control seq ack msg now hk hmsg => ?_⟩
  exact ⟨gatheredBytes control (seqAck seq ack) msg, foldl_receive_frameBytes hk hmsg _, frameValid_gatheredBytes .., rfl,
    frameSeq_gatheredBytes .., frameAck_gatheredBytes .., frameMessage_gatheredBytes ..⟩

end Sys2Proof.HostLink
end

section
namespace Sys2Proof.HostLink

open Sys2Proof Sys2Proof.Machine

/-! ## Bytes on the line (R173) -/

/-- Bits laid in one place above another, least significant first, stand each in its own place. -/
theorem getLsbD_foldr_bits (f : Nat → Bool) (a n j : Nat) :
    ((List.range' a n).foldr (fun i (b : Byte) => b <<< 1 ||| (if f i then 1#8 else 0#8)) 0#8).getLsbD j =
      (decide (j < n) && decide (j < 8) && f (a + j)) := by
  induction n generalizing a j with
  | zero => simp
  | succ n ih =>
    have hbit : ∀ (c : Bool) (j : Nat), (if c then 1#8 else 0#8).getLsbD j = (c && decide (j = 0)) := by
      intro c j
      cases c <;> simp [BitVec.getLsbD_one]
    rw [List.range'_succ, List.foldr_cons, BitVec.getLsbD_or, BitVec.getLsbD_shiftLeft, ih, hbit]
    cases j with
    | zero => simp
    | succ j =>
      have hplace : a + 1 + j = a + (j + 1) := by omega
      by_cases hj : j + 1 < 8
      · simp [hplace, hj, Nat.lt_of_succ_lt hj]
      · simp [hplace, hj]

/-- The data bits stand behind the start bit. -/
theorem dataBits_getD (b : Byte) (stop : Bool) {i : Nat} (hi : i < 8) :
    ([false] ++ (List.range 8).map (fun i => b.getLsbD i) ++ [stop]).getD (i + 1) true = b.getLsbD i := by
  simp [List.getElem?_append, hi]

theorem levelsByte_eq (b : Byte) (stop : Bool) : levelsByte ([false] ++ (List.range 8).map (fun i => b.getLsbD i) ++ [stop]) = b := by
  have hbits : levelsByte ([false] ++ (List.range 8).map (fun i => b.getLsbD i) ++ [stop]) =
      (List.range' 0 8).foldr (fun i (x : Byte) => x <<< 1 ||| (if b.getLsbD i then 1#8 else 0#8)) 0#8 := by
    rw [levelsByte, List.range_eq_range']
    refine List.foldr_ext _ _ _ fun i hi x => ?_
    rw [← List.range_eq_range', dataBits_getD b stop (List.mem_range'_1.mp hi).2]
  refine BitVec.eq_of_getLsbD_eq fun j hj => ?_
  rw [hbits, getLsbD_foldr_bits, Nat.zero_add]
  simp [hj]

theorem length_byteLevels (b : Byte) : (byteLevels b).length = 10 := by simp [byteLevels]

/-- A frame's levels stand ten to a byte. -/
theorem frameLevels_getD (bytes : List Byte) (k : Nat) {bit : Nat} (hbit : bit < 10) :
    (frameLevels bytes).getD (10 * k + bit) true =
      match bytes[k]? with
      | none => true
      | some b => (byteLevels b).getD bit true := by
  induction bytes generalizing k with
  | nil => rfl
  | cons b rest ih =>
    have hcons : frameLevels (b :: rest) = byteLevels b ++ frameLevels rest := rfl
    cases k with
    | zero =>
      rw [hcons, List.getD_append _ _ _ _ (by rw [length_byteLevels]; omega)]
      simp
    | succ k =>
      have hskip : 10 * (k + 1) + bit - 10 = 10 * k + bit := by omega
      rw [hcons, List.getD_append_right _ _ _ _ (by rw [length_byteLevels]; omega), length_byteLevels, hskip, ih]
      rfl

/-- The levels of a byte on the line: low, the data bits, high. -/
theorem byteLevels_getD (b : Byte) {bit : Nat} (hbit : bit < 10) :
    (byteLevels b).getD bit true = if bit = 0 then false else if bit = 9 then true else b.getLsbD (bit - 1) := by
  cases bit with
  | zero => rfl
  | succ i =>
    rw [if_neg (Nat.succ_ne_zero i), Nat.add_sub_cancel]
    split
    · rename_i hstop
      rw [hstop]
      rfl
    · exact dataBits_getD b true (by omega)

/-- The rates of the straps (the table of R173). -/
theorem baudRate_eq (straps : BitVec 2) :
    Config.baudRate straps = match straps.toNat with | 0 => 115200 | 1 => 460800 | 2 => 1000000 | _ => 3000000 := by
  decide +revert

theorem txd_eq {s : State} {f : TxFrame} (hf : s.lnk.tx = some f) :
  s.txd = (frameLevels f.bytes).getD ((s.now - f.begun) * Config.baudRate s.lnk.baud / 40000000) true := by
  simp only [State.txd, hf]
  rfl

/-- Settles O19. -/
theorem serialLine : Obligations.SerialLine := by
  refine ⟨levelsByte_eq, fun s hs => by simp only [State.txd, hs], fun s f k bit hf hbit => ?_⟩
  intro rate hplace
  have hrate : Config.baudRate s.lnk.baud = rate := baudRate_eq _
  rw [txd_eq hf, hrate, hplace, frameLevels_getD _ _ hbit]
  cases f.bytes[k]? with
  | none => rfl
  | some b => exact byteLevels_getD b hbit

end Sys2Proof.HostLink
end

section
namespace Sys2Proof.HostLink

open Sys2Proof Sys2Proof.Machine

/-! ## The retransmission timer (R181, R183, R184) -/

section
variable {s : State} {a n : SeqNum}

theorem anyEnded_iff {k : Link} : k.anyEnded = true ↔ ∃ x ∈ k.replay, x.sent = .ended := by
  simp [Link.anyEnded]

theorem restartTimer_eq (s : State) : s.restartTimer = { s with
    lnk.timer := if ∃ x ∈ s.lnk.replay, x.sent = .ended then some (s.now + Config.ms s.lnk.timeout) else none } := by
  unfold State.restartTimer
  by_cases h : ∃ x ∈ s.lnk.replay, x.sent = .ended
  · rw [if_pos (anyEnded_iff.mpr h), if_pos h]
    rfl
  · rw [if_neg (mt anyEnded_iff.mp h), if_neg h]

theorem goBack_eq (s : State) (n : SeqNum) : s.goBack n = { s with
    lnk.resendPoint := some n
    lnk.timer := if ∃ x ∈ s.lnk.replay, x.sent = .ended then some (s.now + Config.ms s.lnk.timeout) else none } :=
  restartTimer_eq _

/-! ## Acknowledgement values (R181) -/

theorem released_of_nil {k : Link} (hr : k.replay = []) (a : SeqNum) : k.released a = 0 := by
  simp only [Link.released, hr]

theorem released_of_cons {k : Link} {o : ReplayFrame} {more : List ReplayFrame} (hr : k.replay = o :: more) (a : SeqNum) :
    k.released a = if (a - o.seq).toNat ≤ more.length + 1 then (a - o.seq).toNat else 0 := by
  simp only [Link.released, hr, List.length_cons]

/-- A value that names no frame changes nothing. -/
theorem acknowledge_of_released_zero (h : s.lnk.released a = 0) : s.acknowledge a = s := if_pos h

/-- A value that names frames releases them, and a resend point on one of them moves to the oldest that remains. -/
theorem acknowledge_of_released {d : Nat} (h : s.lnk.released a = d) (hd : d ≠ 0) : s.acknowledge a = { s with
    lnk.replay := s.lnk.replay.drop d
    lnk.retry := 0
    lnk.timer := if ∃ x ∈ s.lnk.replay.drop d, x.sent = .ended then some (s.now + Config.ms s.lnk.timeout) else none
    lnk.resendPoint := s.lnk.resendPoint.bind fun n =>
      (s.lnk.replay.drop d).head?.map fun x => if ∃ y ∈ s.lnk.replay.take d, y.seq = n then x.seq else n } := by
  unfold State.acknowledge
  rw [h, if_neg hd, restartTimer_eq]
  cases hp : s.lnk.resendPoint with
  | none => rfl
  | some n =>
    cases hleft : s.lnk.replay.drop d with
    | nil => rfl
    | cons x rest =>
      by_cases hgone : ∃ y ∈ s.lnk.replay.take d, y.seq = n
      · have hany : (s.lnk.replay.take d).any (fun y => decide (y.seq = n)) = true := by simpa using hgone
        simp [hgone, hany]
      · have hany : ¬ (s.lnk.replay.take d).any (fun y => decide (y.seq = n)) = true := by simpa using hgone
        simp only [if_neg hany, if_neg hgone, Option.bind_some, List.head?_cons, Option.map_some]

/-- An acknowledgement leaves the link as it is but for the replay buffer, the resend point, the retry count and the timer. -/
@[simp] theorem acknowledge_lnk_frame (s : State) (a : SeqNum) :
    (s.acknowledge a).lnk.state = s.lnk.state ∧ (s.acknowledge a).lnk.rxExpected = s.lnk.rxExpected ∧
    (s.acknowledge a).lnk.intake = s.lnk.intake ∧ (s.acknowledge a).lnk.ackOwed = s.lnk.ackOwed ∧
    (s.acknowledge a).lnk.counters = s.lnk.counters ∧ (s.acknowledge a).lnk.timeout = s.lnk.timeout := by
  by_cases h : s.lnk.released a = 0
  · rw [acknowledge_of_released_zero h]
    exact ⟨rfl, rfl, rfl, rfl, rfl, rfl⟩
  · rw [acknowledge_of_released rfl h]
    exact ⟨rfl, rfl, rfl, rfl, rfl, rfl⟩

/-! ## ACK and NAK frames (R181, R183) -/

/-- A NAK's value releases frames, and the oldest left that has its number is gone back to. -/
theorem negative_eq (s : State) (n : SeqNum) : s.negative n =
    if (s.acknowledge n).lnk.replay.head?.map ReplayFrame.seq = some n then (s.acknowledge n).goBack n else s.acknowledge n := by
  unfold State.negative
  cases h : (s.acknowledge n).lnk.replay with
  | nil => simp [h]
  | cons x rest => simp [h]

theorem takeNak_of_other {g : List Byte} (hup : s.lnk.state = .up)
    (h : (s.acknowledge (frameAck g)).lnk.replay.head?.map ReplayFrame.seq ≠ some (frameAck g)) :
    s.takeNak g = (s.acknowledge (frameAck g)).transmit := by
  rw [State.takeNak, if_pos hup, negative_eq, if_neg h]

theorem takeNak_of_oldest {g : List Byte} (hup : s.lnk.state = .up)
    (h : (s.acknowledge (frameAck g)).lnk.replay.head?.map ReplayFrame.seq = some (frameAck g)) :
    s.takeNak g = State.transmit { s.acknowledge (frameAck g) with
      lnk.resendPoint := some (frameAck g)
      lnk.timer := if ∃ x ∈ (s.acknowledge (frameAck g)).lnk.replay, x.sent = .ended
        then some (s.now + Config.ms s.lnk.timeout) else none } := by
  rw [State.takeNak, if_pos hup, negative_eq, if_pos h, goBack_eq]
  simp

variable {g : List Byte} {control : Byte}

theorem isControl_of (hv : frameValid g = true) (hc : frameControl g = control) : isControl control g = true := by
  simp [isControl, hv, hc]

theorem exec_ackFrame (hg : s.lnk.gathered = some g) (hv : frameValid g = true) (hc : frameControl g = 0x02#8) :
    exec .ackFrame s = .next (State.takeAck { s with lnk.gathered := none } g) :=
  congrArg Host.Outcome.next (takeFrame_of hg (isControl_of hv hc))

theorem exec_nakFrame (hg : s.lnk.gathered = some g) (hv : frameValid g = true) (hc : frameControl g = 0x03#8) :
    exec .nakFrame s = .next (State.takeNak { s with lnk.gathered := none } g) :=
  congrArg Host.Outcome.next (takeFrame_of hg (isControl_of hv hc))

theorem exec_dataFrame (hg : s.lnk.gathered = some g) (hv : frameValid g = true) (hc : frameControl g = 0x01#8) :
    exec .dataFrame s = .next (State.takeData { s with lnk.gathered := none } g) :=
  congrArg Host.Outcome.next (takeFrame_of hg (isControl_of hv hc))

end

/-- Settles O37: a value by the number of frames it names, and the two frames that carry nothing else. -/
theorem acknowledgement : Obligations.Acknowledgement := by
  refine ⟨fun s a => ⟨fun hr => acknowledge_of_released_zero (released_of_nil hr a), ?_⟩, ?_⟩
  · intro o more hr d gone left
    have hnamed : s.lnk.released a = if d ≤ more.length + 1 then d else 0 := released_of_cons hr a
    refine ⟨fun hnone => acknowledge_of_released_zero ?_, fun hmin hmax => ?_⟩
    · rw [hnamed]
      split <;> omega
    · rw [if_pos hmax] at hnamed
      exact acknowledge_of_released hnamed (by omega)
  · intro s g hg hv hup u
    refine ⟨fun hc => ?_, fun hc => ?_⟩
    · rw [exec_ackFrame hg hv hc]
      exact congrArg Host.Outcome.next (if_pos hup)
    · rw [exec_nakFrame hg hv hc]
      exact ⟨fun hother => congrArg Host.Outcome.next (takeNak_of_other hup hother),
        fun holdest => congrArg Host.Outcome.next (takeNak_of_oldest hup holdest)⟩

/-! ## DATA frames (R176 to R178) -/

section
variable {s : State} {seq : SeqNum} {msg : Message}

theorem sortData_accepted (hseq : (seq - s.lnk.rxExpected).toNat = 0) (hfree : s.lnk.intake.length < 8) :
    s.sortData seq msg = { s with
      lnk.intake := s.lnk.intake ++ [msg]
      lnk.rxExpected := s.lnk.rxExpected + 1
      lnk.nak := .clear
      lnk.ackOwed := if s.lnk.ackOwed = .none then .since s.now else s.lnk.ackOwed } := by
  have howe : s.lnk.ackOwed.owe s.now = if s.lnk.ackOwed = .none then .since s.now else s.lnk.ackOwed := by
    cases s.lnk.ackOwed <;> rfl
  rw [← howe]
  exact (if_pos hseq).trans (if_pos hfree)

theorem sortData_dropped (hseq : (seq - s.lnk.rxExpected).toNat = 0) (hfull : 8 ≤ s.lnk.intake.length) :
    s.sortData seq msg = { s with lnk.counters.intakeFull := min 65535 (s.lnk.counters.intakeFull + 1) } :=
  (if_pos hseq).trans (if_neg (Nat.not_lt.mpr hfull))

theorem sortData_duplicate (hseq : 12 ≤ (seq - s.lnk.rxExpected).toNat) : s.sortData seq msg = { s with
    lnk.counters.duplicate := min 65535 (s.lnk.counters.duplicate + 1)
    lnk.ackOwed := .requested } := by
  have hne : (seq - s.lnk.rxExpected).toNat ≠ 0 := by omega
  exact (if_neg hne).trans (if_pos hseq)

theorem sortData_outOfOrder (hmin : 1 ≤ (seq - s.lnk.rxExpected).toNat) (hmax : (seq - s.lnk.rxExpected).toNat ≤ 11) :
    s.sortData seq msg = { s with
      lnk.counters.outOfOrder := min 65535 (s.lnk.counters.outOfOrder + 1)
      lnk.nakOutOfOrder := true } := by
  have hne : (seq - s.lnk.rxExpected).toNat ≠ 0 := by omega
  exact (if_neg hne).trans (if_neg (by omega))

end

/-- Settles O38: the acknowledgement leaves what the frame is sorted by, and the four sorts are those of the sorting. -/
theorem dataFrame : Obligations.DataFrame := by
  refine ⟨fun s => rfl, ?_⟩
  intro s g hg hv hc hup u d
  have htake : exec .dataFrame s = .next (u.sortData (frameSeq g) (frameMessage g)).transmitAfterTakes :=
    (exec_dataFrame hg hv hc).trans (congrArg Host.Outcome.next (if_pos hup))
  obtain ⟨hexpected, hintake, howed, hcounters, hnow⟩ : u.lnk.rxExpected = s.lnk.rxExpected ∧ u.lnk.intake = s.lnk.intake ∧
      u.lnk.ackOwed = s.lnk.ackOwed ∧ u.lnk.counters = s.lnk.counters ∧ u.now = s.now := by simp [u]
  have hd : (frameSeq g - u.lnk.rxExpected).toNat = d := by rw [hexpected]
  have hlen : u.lnk.intake.length = s.lnk.intake.length := by rw [hintake]
  rw [htake]
  refine ⟨fun h hfree => ?_, fun h hfull => ?_, fun h => ?_, fun hmin hmax => ?_⟩
  · rw [sortData_accepted (hd.trans h) (hlen ▸ hfree), hexpected, hintake, howed, hnow]
  · rw [sortData_dropped (hd.trans h) (hlen ▸ hfull), hcounters]
  · rw [sortData_duplicate (hd ▸ h), hcounters]
  · rw [sortData_outOfOrder (hd ▸ hmin) (hd ▸ hmax), hcounters]

/-! ## A host RESYNC (R186) -/

theorem renumber_eq_mapIdx (n : Nat) (q : List ReplayFrame) :
    renumber n q = q.mapIdx fun i x => { x with seq := BitVec.ofNat 4 (n + i) } := by
  induction q generalizing n with
  | nil => rfl
  | cons x rest ih =>
    rw [List.mapIdx_cons, renumber, ih]
    simp only [Nat.add_zero, Nat.add_right_comm n 1, Nat.add_assoc]

theorem exec_resync {s : State} {g : List Byte} (hg : s.lnk.gathered = some g) (hv : frameValid g = true)
    (hc : frameControl g = 0x04#8) : exec .resync s = .next (State.takeResync { s with lnk.gathered := none }) :=
  congrArg Host.Outcome.next (takeFrame_of (effect := fun t _ => t.takeResync) hg (isControl_of hv hc))

/-- A DATA frame on TXD is no frame of the buffer any more, and another stays what it is. -/
theorem orphan_eq (kind : TxKind) : kind.orphan = match kind with | .data _ => .data none | k => k := by
  cases kind <;> rfl

/-- Settles O39: what R186 puts back, field by field. -/
theorem resyncTaken : Obligations.ResyncTaken := by
  intro s g hg hv hc
  have hreplay : renumber 0 s.lnk.replay = s.lnk.replay.mapIdx fun i x => { x with seq := BitVec.ofNat 4 i } := by
    simp only [renumber_eq_mapIdx, Nat.zero_add]
  rw [exec_resync hg hv hc]
  unfold State.takeResync Link.resynchronise
  simp only [hreplay, orphan_eq]
  rfl

end Sys2Proof.HostLink
end

section
namespace Sys2Proof.HostLink

open Sys2Proof Sys2Proof.Machine

/-! ## The transmitter (R179, R185) -/

section
variable {s : State} {x : ReplayFrame}

/-- A RESYNC-REPLY comes before every other frame. -/
theorem transmit_of_resyncReplyDue (htx : s.lnk.tx = none) (hreply : s.lnk.resyncReplyDue = true) : s.transmit =
    { (s.sendFrame .resyncReply (frameBytes 0x05#8 0#8 (s.announceMessage s.lnk.cause))) with lnk.resyncReplyDue := false } :=
  (if_neg (not_not_intro htx)).trans (if_pos hreply)

/-- Outside UP a RESYNC that is due is all that can begin. -/
theorem transmit_of_not_up (htx : s.lnk.tx = none) (hreply : s.lnk.resyncReplyDue = false) (hstate : s.lnk.state ≠ .up) :
    s.transmit = if s.lnk.resyncDue then
      { (s.sendFrame .resync (frameBytes 0x04#8 0#8 (s.announceMessage s.lnk.announceCause))) with lnk.resyncDue := false } else s := by
  cases h : s.lnk.state with
  | up => exact absurd h hstate
  | start => simp [State.transmit, htx, hreply, h]
  | stalled => simp [State.transmit, htx, hreply, h]

theorem transmit_of_up (htx : s.lnk.tx = none) (hreply : s.lnk.resyncReplyDue = false) (hstate : s.lnk.state = .up) :
    s.transmit = s.transmitUp := by
  simp [State.transmit, htx, hreply, hstate]

theorem nakDue_iff {k : Link} : k.nakDue = true ↔ k.nak = .due ∨ k.nakOutOfOrder = true := by
  simp [Link.nakDue]

theorem transmitUp_of_nakDue (h : s.lnk.nakDue = true) : s.transmitUp =
    { (s.sendAcking .nak 0x03#8 0#4 []) with lnk.nak := .sent, lnk.nakOutOfOrder := false } := if_pos h

theorem transmitUp_of_resendFrame (hnak : s.lnk.nakDue = false) (hx : s.lnk.resendFrame = some x) :
    s.transmitUp = { (s.sendData x) with lnk.resendPoint := seqAfter x.seq s.lnk.replay } := by
  simp [State.transmitUp, hnak, hx]

theorem transmitUp_of_newFrame (hnak : s.lnk.nakDue = false) (hresend : s.lnk.resendFrame = none)
    (hx : s.lnk.newFrame = some x) : s.transmitUp = s.sendData x := by
  simp [State.transmitUp, hnak, hresend, hx]

theorem transmitUp_of_no_frame (hnak : s.lnk.nakDue = false) (hresend : s.lnk.resendFrame = none)
    (hnew : s.lnk.newFrame = none) :
    s.transmitUp = if s.lnk.ackOwed = .requested then s.sendAcking .ack 0x02#8 0#4 [] else s := by
  simp [State.transmitUp, hnak, hresend, hnew]

/-! ### The frames of the replay buffer (R182, R183) -/

variable {k : Link} {before after : List ReplayFrame}

/-- The resend point names the first frame of its number. -/
theorem resendFrame_of_point (hr : k.replay = before ++ x :: after) (hpoint : k.resendPoint = some x.seq)
    (hfirst : ∀ y ∈ before, y.seq ≠ x.seq) : k.resendFrame = some x := by
  unfold Link.resendFrame
  rw [hpoint]
  exact List.find?_eq_some_iff_append.mpr ⟨decide_eq_true rfl, before, after, hr, fun y hy => by simp [hfirst y hy]⟩

theorem resendFrame_of_none (h : ∀ y ∈ k.replay, k.resendPoint ≠ some y.seq) : k.resendFrame = none := by
  unfold Link.resendFrame
  split
  · rfl
  · rename_i n hn
    rw [List.find?_eq_none]
    intro y hy heq
    exact h y hy (by rw [hn, of_decide_eq_true heq])

theorem newFrame_of_first (hr : k.replay = before ++ x :: after) (hx : x.sent = .notBegun)
    (hfirst : ∀ y ∈ before, y.sent ≠ .notBegun) : k.newFrame = some x := by
  rw [Link.newFrame, List.find?_eq_some_iff_append]
  exact ⟨decide_eq_true hx, before, after, hr, fun y hy => by simp [hfirst y hy]⟩

theorem newFrame_of_none (h : ∀ y ∈ k.replay, y.sent ≠ .notBegun) : k.newFrame = none := by
  rw [Link.newFrame, List.find?_eq_none]
  exact fun y hy => by simp [h y hy]

/-- Behind the first frame of a number stands the frame that is resent next. -/
theorem seqAfter_of_first (hfirst : ∀ y ∈ before, y.seq ≠ x.seq) :
    seqAfter x.seq (before ++ x :: after) = after.head?.map ReplayFrame.seq := by
  induction before with
  | nil => simp [seqAfter]
  | cons y before ih =>
    rw [List.forall_mem_cons] at hfirst
    rw [List.cons_append, seqAfter, if_neg hfirst.1, ih hfirst.2]

/-- What the transmission of a frame of the replay buffer leaves, with the resend point as given: a first transmission has begun, and a
repeated one is counted. -/
def dataBegun (s : State) (x : ReplayFrame) (resend : Option SeqNum) : State := { s with
  lnk.tx := some {
    kind := .data (some x.report.serial), begun := s.now
    bytes := frameBytes 0x01#8 (seqAck x.seq s.lnk.rxExpected) x.report.bytes }
  lnk.ackOwed := .none
  lnk.resendPoint := resend
  lnk.replay := if x.sent = .notBegun then
    s.lnk.replay.map fun y => if y.report.serial = x.report.serial then { y with sent := .begun } else y else s.lnk.replay
  lnk.counters.retransmission := if x.sent = .notBegun then s.lnk.counters.retransmission
    else min 65535 (s.lnk.counters.retransmission + 1) }

theorem sendData_eq (s : State) (x : ReplayFrame) : s.sendData x = dataBegun s x s.lnk.resendPoint := by
  unfold State.sendData dataBegun
  cases hx : x.sent <;> rfl

end

/-- Settles O44: the frames of R185 one after another, each begun where none before it is due. -/
theorem transmitPrecedence : Obligations.TransmitPrecedence := by
  intro s
  refine ⟨transmit_of_busy, ?_⟩
  intro htx tx announce ack data noResend
  refine ⟨transmit_of_resyncReplyDue htx, transmit_of_not_up htx, fun hreply hup => ⟨fun hnak => ?_, fun hnak hooo => ?_⟩⟩
  · rw [transmit_of_up htx hreply hup]
    exact transmitUp_of_nakDue (nakDue_iff.mpr hnak)
  · have hnone : s.lnk.nakDue = false := by rw [← Bool.not_eq_true, nakDue_iff]; simp [hnak, hooo]
    rw [transmit_of_up htx hreply hup]
    refine ⟨fun before x after hr hpoint hfirst => ?_, fun before x after hno hr hx hfirst => ?_, fun hno hnew => ?_⟩
    · rw [transmitUp_of_resendFrame hnone (resendFrame_of_point hr hpoint hfirst), sendData_eq, hr, seqAfter_of_first hfirst]
      rfl
    · rw [transmitUp_of_newFrame hnone (resendFrame_of_none hno) (newFrame_of_first hr hx hfirst)]
      exact sendData_eq s x
    · exact transmitUp_of_no_frame hnone (resendFrame_of_none hno) (newFrame_of_none hnew)

end Sys2Proof.HostLink
end

section
namespace Sys2Proof.HostLink

open Sys2Proof Sys2Proof.Machine Sys2Proof.Scheduling

/-! ## Frames discarded, and damaged frames (R174, R175, R180, R187) -/

section
variable {s : State} {g : List Byte} {bytes : List Byte} {since : Nat}

theorem exec_hostResyncReply (hg : s.lnk.gathered = some g) (hv : frameValid g = true) (hc : frameControl g = 0x05#8) :
    exec .hostResyncReply s = .next { s with lnk.gathered := none } :=
  congrArg Host.Outcome.next (takeFrame_of (effect := discardFrame) hg (isControl_of hv hc))

theorem exec_unknownControlFrame (hg : s.lnk.gathered = some g) (hv : frameValid g = true)
    (hc : frameControl g = 0#8 ∨ 5 < (frameControl g).toNat) :
    exec .unknownControlFrame s = .next { s with lnk.gathered := none } := by
  have hunknown : isUnknownControl g = true := by simp only [isUnknownControl, hv, hc, decide_true, Bool.and_self]
  exact congrArg Host.Outcome.next (takeFrame_of (effect := discardFrame) hg hunknown)

theorem exec_crcError (hg : s.lnk.gathered = some g) (hcrc : crcBytes (g.take (g.length - 2)) ≠ g.drop (g.length - 2)) :
    exec .crcError s = .next (State.takeDamaged { s with lnk.gathered := none }) := by
  have hinvalid : (!frameValid g) = true := by simp [frameValid, hcrc]
  exact congrArg Host.Outcome.next
    (takeFrame_of (wanted := fun g => !frameValid g) (effect := fun t _ => t.takeDamaged) hg hinvalid)

/-- A damaged frame makes a NAK due in UP while the NAK state is clear. -/
theorem damaged_eq (k : Link) : k.damaged = { k with nak := if k.state = .up ∧ k.nak = .clear then .due else k.nak } := by
  unfold Link.damaged
  split <;> rfl

theorem takeDamaged_eq (s : State) : s.takeDamaged = State.transmit { s with
    lnk.counters.crc := min 65535 (s.lnk.counters.crc + 1)
    lnk.nak := if s.lnk.state = .up ∧ s.lnk.nak = .clear then .due else s.lnk.nak } := by
  simp only [State.takeDamaged, damaged_eq]
  rfl

theorem takeGap_of_inside (h : s.lnk.receiver = .inside bytes since) : s.takeGap = State.transmit { s with
    now := max s.now (since + Config.ms 2)
    lnk.receiver := .hunting
    lnk.counters.gap := min 65535 (s.lnk.counters.gap + 1)
    lnk.nak := if s.lnk.state = .up ∧ s.lnk.nak = .clear then .due else s.lnk.nak } := by
  simp only [State.takeGap, h, damaged_eq]
  rfl

/-- The command of an event that ends in a transmission has its effect on a part that is quiet to the moment of that transmission. -/
theorem exec_of_event_transmit {c : Instr} {t : State} {effect : State → State} (hc : exec c s = .next (s.event effect))
    (he : effect s = t.transmit) (hq : s.quietTo t.now = true) : exec c s = .next t.transmit := by
  obtain ⟨-, -, -, -, -, -, -, -, -, hnow, -⟩ := transmit_frame t
  exact exec_of_event hc he (by rw [hnow]; exact hq)

end

/-- Settles O40: what the check of a frame discards, and what it counts. -/
theorem discardedFrames : Obligations.DiscardedFrames := by
  refine ⟨?_, ?_⟩
  · intro s g hg hv gone
    refine ⟨exec_hostResyncReply hg hv, exec_unknownControlFrame hg hv, fun hup => ⟨fun hc => ?_, fun hc => ?_, fun hc => ?_⟩⟩
    · exact (exec_dataFrame hg hv hc).trans (congrArg Host.Outcome.next (if_neg hup))
    · exact (exec_ackFrame hg hv hc).trans (congrArg Host.Outcome.next (if_neg hup))
    · exact (exec_nakFrame hg hv hc).trans (congrArg Host.Outcome.next (if_neg hup))
  · intro s nak
    refine ⟨fun g hg hcrc => ?_, fun bytes since hq hr => exec_of_event_transmit rfl (takeGap_of_inside hr) hq⟩
    exact (exec_crcError hg hcrc).trans (congrArg Host.Outcome.next (takeDamaged_eq _))

/-! ## The receiver (R174) -/

theorem exec_byteReceived {s : State} (hq : s.quiet = true) (b : Byte) :
    exec (.byteReceived b) s = .next { s with lnk := s.lnk.receive b s.now } := exec_of_event rfl rfl hq

/-- Settles O41: a byte on a part at rest goes to the receiver, which acts by where it stands. -/
theorem byteReceived : Obligations.ByteReceived := by
  intro s b hq hunted
  rw [exec_byteReceived hq]
  refine ⟨fun hr => by rw [receive_hunting hr]; rfl, fun since hr => by rw [receive_length hr]; rfl, fun len more since hr => ?_⟩
  exact ⟨fun hmore => by rw [receive_more hr hmore], fun hlast => by rw [receive_last hr hlast]⟩

/-! ## The timers of the link (R179, R184, R187) -/

section
variable {s : State} {d t : Nat} {x : ReplayFrame} {more : List ReplayFrame}

theorem requestAck_of_since (h : s.lnk.ackOwed = .since t) : s.requestAck =
    State.transmit { s with now := max s.now (t + Config.ms 1), lnk.ackOwed := .requested } := by
  simp only [State.requestAck, h]
  rfl

/-- Below the eighth expiry every frame is due again from the oldest. -/
theorem expireRetransmission_of_retry (hup : s.lnk.state = .up) (htimer : s.lnk.timer = some d) (hr : s.lnk.replay = x :: more)
    (hretry : s.lnk.retry < 7) : s.expireRetransmission = State.transmit { s with
      now := max s.now d
      lnk.retry := s.lnk.retry + 1
      lnk.resendPoint := some x.seq
      lnk.timer := if ∃ y ∈ s.lnk.replay, y.sent = .ended then some (max s.now d + Config.ms s.lnk.timeout) else none } := by
  have hlimit : s.lnk.retry + 1 < Config.retryLimit := Nat.succ_lt_succ hretry
  simp only [State.expireRetransmission, htimer, if_pos hup, if_pos hlimit, goBack_eq, reach_frame, hr]
  rfl

/-- The eighth expiry stalls the link, which announces at once. -/
theorem expireRetransmission_of_limit (hup : s.lnk.state = .up) (htimer : s.lnk.timer = some d) (hretry : 7 ≤ s.lnk.retry) :
    s.expireRetransmission = State.transmit { s with
      now := max s.now d
      lnk.retry := s.lnk.retry + 1
      lnk.state := .stalled
      lnk.timer := none
      lnk.announce := some (max s.now d + Config.ms 100)
      lnk.resyncDue := true } := by
  have hlimit : ¬ s.lnk.retry + 1 < Config.retryLimit := Nat.not_lt.mpr (Nat.succ_le_succ hretry)
  simp only [State.expireRetransmission, htimer, if_pos hup, if_neg hlimit]
  rfl

theorem expireAnnounce_of_not_up (hstate : s.lnk.state ≠ .up) (hannounce : s.lnk.announce = some d) :
    s.expireAnnounce = State.transmit { s with
      now := max s.now d
      lnk.announce := some (max s.now d + Config.ms 100)
      lnk.resyncDue := true } := by
  simp only [State.expireAnnounce, hannounce, if_neg hstate]
  rfl

end

/-- Settles O42: each timer is an event on a part that is quiet to its deadline. -/
theorem linkTimers : Obligations.LinkTimers := by
  intro s
  refine ⟨fun t hq h => ?_, fun d x more hq hup htimer hr hretry => ?_, fun d hq hup htimer hretry => ?_,
    fun d hq hstate hannounce => ?_⟩
  · exact exec_of_event_transmit rfl (requestAck_of_since h) hq
  · exact exec_of_event_transmit rfl (expireRetransmission_of_retry hup htimer hr hretry) hq
  · exact exec_of_event_transmit rfl (expireRetransmission_of_limit hup htimer hretry) hq
  · exact exec_of_event_transmit rfl (expireAnnounce_of_not_up hstate hannounce) hq

/-! ## The end of a frame on TXD (R182, R185, R186) -/

section
variable {s : State} {f : TxFrame}

theorem endFrame_of_tx (hf : s.lnk.tx = some f) : s.endFrame = State.transmit (State.frameSent { s with
    now := max s.now (f.begun + frameTicks s.lnk.baud f.bytes), lnk.tx := none } f.kind) := by
  simp only [State.endFrame, hf]
  rfl

/-- A DATA frame of the buffer has ended its transmission, and in UP a stopped timer starts. -/
theorem frameSent_data (s : State) (serial : Word) : s.frameSent (.data (some serial)) = { s with
    lnk.replay := s.lnk.replay.map fun x => if x.report.serial = serial then { x with sent := .ended } else x
    lnk.timer := if s.lnk.state = .up ∧ s.lnk.timer = none ∧ ∃ x ∈ s.lnk.replay, x.report.serial = serial
      then some (s.now + Config.ms s.lnk.timeout) else s.lnk.timer } := by
  have hbuffered : s.lnk.replay.any (fun x => decide (x.report.serial = serial)) = true ↔
      ∃ x ∈ s.lnk.replay, x.report.serial = serial := by simp
  unfold State.frameSent
  dsimp only
  simp only [hbuffered]
  split <;> rfl

end

/-- Settles O43: what the end of each kind of frame does before the next begins. -/
theorem frameTransmitEnd : Obligations.FrameTransmitEnd := by
  intro s f hf now hq
  have hend : ∀ t : State, State.frameSent { s with now := now, lnk.tx := none } f.kind = t → t.now = now →
      exec .frameTransmitEnd s = .next t.transmit := fun t ht hnow =>
    exec_of_event_transmit rfl ((endFrame_of_tx hf).trans (congrArg State.transmit ht)) (by rw [hnow]; exact hq)
  refine ⟨fun hkind => hend _ (by rw [hkind]; rfl) rfl, fun hkind => hend _ ?_ rfl, fun serial hkind => hend _ ?_ rfl⟩
  · rcases hkind with hkind | hkind | hkind | hkind <;> rw [hkind] <;> rfl
  · rw [hkind]
    exact frameSent_data _ serial

end Sys2Proof.HostLink
end

section
namespace Sys2Proof.Formats

open Sys2Proof Sys2Proof.Machine

/-! PROOF. Message formats (O17, O20): the bytes of operation records, profiles and reports, the ranges of what is read from them, and the
largest reply and report.

That a record and a profile are read back from their bytes stands with SUBMIT and CONFIGURE WINDOW (`Requests.parseOps_bytes`,
`Windows.profileAt_bytes`); here come the bytes themselves and what a parser that answers has checked. -/

/-! ## Which byte is which (Tables 11–3 to 11–5) -/

/-- A number in a 16-bit field: its low byte, then the byte above it. -/
theorem natBytes_eq (n : Nat) : natBytes n = [BitVec.ofNat 8 n, BitVec.ofNat 8 (n / 256)] := by
  have hlow : (BitVec.ofNat 16 n).setWidth 8 = BitVec.ofNat 8 n := BitVec.setWidth_ofNat_of_le (by decide) n
  have hhigh : ((BitVec.ofNat 16 n) >>> 8).setWidth 8 = BitVec.ofNat 8 (n / 256) := by
    apply BitVec.eq_of_toNat_eq
    simp only [BitVec.toNat_setWidth, BitVec.toNat_ushiftRight, BitVec.toNat_ofNat, Nat.shiftRight_eq_div_pow]
    omega
  rw [natBytes, wordBytes, hlow, hhigh]

theorem poll_bytes (a mask want : Word) (i n : Nat) : (Op.poll a mask want i n).bytes =
    [0x05#8] ++ wordBytes a ++ wordBytes mask ++ wordBytes want ++
      [byteOf i, byteOf (i / 256), byteOf n, byteOf (n / 256)] := by
  rw [Op.bytes, natBytes_eq, natBytes_eq, List.append_assoc]
  rfl

theorem waitAttention_bytes (l : Fin 8) (t : Nat) :
    (Op.waitAttention l t).bytes = [0x07#8, byteOf l.val, byteOf t, byteOf (t / 256)] := by
  rw [Op.bytes, natBytes_eq]
  rfl

theorem delay_bytes (i : Nat) : (Op.delay i).bytes = [0x08#8, byteOf i, byteOf (i / 256)] := by
  rw [Op.bytes, natBytes_eq]
  rfl

theorem profile_bytes (p : Profile) : p.bytes =
    [p.target.byte, p.width.byte, byteOf p.addressBits, p.addressMode.byte, flagByte p.elide, p.csPolarity.byte,
      p.strobePolarity.byte, p.advPolarity.byte, p.readyPolarity.byte, byteOf p.addressPhase, byteOf p.setup, byteOf p.strobe,
      byteOf p.hold, byteOf p.recovery, p.readyMode.byte, byteOf p.readyLimit, byteOf (p.readyLimit / 256), byteOf p.queueLimit,
      flagByte p.softStop] := by
  rw [Profile.bytes, natBytes_eq]
  rfl

/-! ## What is read lies in range (R27, R58, R192) -/

theorem bounds_of_within {lo hi n k : Nat} (h : within lo hi n = some k) : lo ≤ k ∧ k ≤ hi := by
  unfold within at h
  split at h
  case isTrue hn =>
    cases h
    exact hn
  case isFalse => cases h

theorem length_of_takeWords {n : Nat} {bs rest : List Byte} {ws : List Word} (h : takeWords n bs = some (ws, rest)) : ws.length = n := by
  induction n, bs using takeWords.induct generalizing ws with
  | case1 bs =>
    cases h
    rfl
  | case2 n lo hi bs vs more hmore ih =>
    rw [takeWords, hmore] at h
    cases h
    exact congrArg (· + 1) (ih hmore)
  | case3 n lo hi bs hmore ih =>
    rw [takeWords, hmore] at h
    cases h
  | case4 n bs hshort =>
    rw [takeWords] at h
    · cases h
    · exact hshort

section
variable {bs rest : List Byte} {op : Op}

theorem inRange_of_parseWrite (h : parseWrite bs = some (op, rest)) : op.inRange = true := by
  unfold parseWrite at h
  split at h <;> cases h
  rfl

theorem inRange_of_parseWriteBlock (h : parseWriteBlock bs = some (op, rest)) : op.inRange = true := by
  unfold parseWriteBlock at h
  split at h
  · obtain ⟨count, hcount, h⟩ := Option.bind_eq_some_iff.mp h
    obtain ⟨⟨values, more⟩, hvalues, h⟩ := Option.bind_eq_some_iff.mp h
    cases h
    exact decide_eq_true (length_of_takeWords hvalues ▸ (bounds_of_within hcount))
  · cases h

theorem inRange_of_parseRead (h : parseRead bs = some (op, rest)) : op.inRange = true := by
  unfold parseRead at h
  split at h
  · obtain ⟨count, hcount, h⟩ := Option.bind_eq_some_iff.mp h
    cases h
    exact decide_eq_true (bounds_of_within hcount)
  · cases h

theorem inRange_of_parseModify (h : parseModify bs = some (op, rest)) : op.inRange = true := by
  unfold parseModify at h
  split at h <;> cases h
  rfl

theorem inRange_of_parsePoll (h : parsePoll bs = some (op, rest)) : op.inRange = true := by
  unfold parsePoll at h
  split at h
  · obtain ⟨interval, hinterval, h⟩ := Option.bind_eq_some_iff.mp h
    obtain ⟨attempts, hattempts, h⟩ := Option.bind_eq_some_iff.mp h
    cases h
    obtain ⟨hi, hi'⟩ := bounds_of_within hinterval
    exact decide_eq_true ⟨hi, hi', bounds_of_within hattempts⟩
  · cases h

theorem inRange_of_parseScan (h : parseScan bs = some (op, rest)) : op.inRange = true := by
  unfold parseScan at h
  split at h
  · obtain ⟨count, hcount, h⟩ := Option.bind_eq_some_iff.mp h
    obtain ⟨cond, -, h⟩ := Option.bind_eq_some_iff.mp h
    cases h
    exact decide_eq_true (bounds_of_within hcount)
  · cases h

/-- A timeout of 16 bits has no range of its own. -/
theorem inRange_of_parseWait (h : parseWait bs = some (op, rest)) : op.inRange = true := by
  unfold parseWait at h
  split at h
  · obtain ⟨line, -, h⟩ := Option.bind_eq_some_iff.mp h
    cases h
    exact decide_eq_true (Nat.le_of_lt_succ (BitVec.isLt _))
  · cases h

theorem inRange_of_parseDelay (h : parseDelay bs = some (op, rest)) : op.inRange = true := by
  unfold parseDelay at h
  split at h
  · obtain ⟨interval, hinterval, h⟩ := Option.bind_eq_some_iff.mp h
    cases h
    exact decide_eq_true (bounds_of_within hinterval)
  · cases h

theorem inRange_of_parseOp (h : parseOp bs = some (op, rest)) : op.inRange = true := by
  unfold parseOp at h
  split at h
  · cases h
  split at h
  · exact inRange_of_parseWrite h
  split at h
  · exact inRange_of_parseWriteBlock h
  split at h
  · exact inRange_of_parseRead h
  split at h
  · exact inRange_of_parseModify h
  split at h
  · exact inRange_of_parsePoll h
  split at h
  · exact inRange_of_parseScan h
  split at h
  · exact inRange_of_parseWait h
  split at h
  · exact inRange_of_parseDelay h
  · cases h

end

/-- A list that is read has as many records as the count gives, each in range. -/
theorem length_and_inRange_of_parseOps {n : Nat} {bs : List Byte} {ops : List Op} (h : parseOps n bs = some ops) :
    ops.length = n ∧ ops.all Op.inRange = true := by
  induction n generalizing bs ops with
  | zero =>
    unfold parseOps at h
    split at h <;> cases h
    exact ⟨rfl, rfl⟩
  | succ n ih =>
    obtain ⟨⟨op, rest⟩, hop, h⟩ := Option.bind_eq_some_iff.mp h
    obtain ⟨more, hmore, h⟩ := Option.bind_eq_some_iff.mp h
    cases h
    obtain ⟨hlen, hall⟩ := ih hmore
    exact ⟨congrArg (· + 1) hlen, by rw [List.all_cons, inRange_of_parseOp hop, hall, Bool.and_true]⟩

/-- Each number of a profile that is read has passed its range; the other fields have none. -/
theorem inRange_of_profileAt {m : Message} {o : Nat} {p : Profile} (h : profileAt m o = some p) : p.inRange = true := by
  unfold profileAt at h
  obtain ⟨target, -, h⟩ := Option.bind_eq_some_iff.mp h
  obtain ⟨width, -, h⟩ := Option.bind_eq_some_iff.mp h
  obtain ⟨addressBits, hbits, h⟩ := Option.bind_eq_some_iff.mp h
  obtain ⟨addressMode, -, h⟩ := Option.bind_eq_some_iff.mp h
  obtain ⟨elide, -, h⟩ := Option.bind_eq_some_iff.mp h
  obtain ⟨csPolarity, -, h⟩ := Option.bind_eq_some_iff.mp h
  obtain ⟨strobePolarity, -, h⟩ := Option.bind_eq_some_iff.mp h
  obtain ⟨advPolarity, -, h⟩ := Option.bind_eq_some_iff.mp h
  obtain ⟨readyPolarity, -, h⟩ := Option.bind_eq_some_iff.mp h
  obtain ⟨addressPhase, hphase, h⟩ := Option.bind_eq_some_iff.mp h
  obtain ⟨setup, hsetup, h⟩ := Option.bind_eq_some_iff.mp h
  obtain ⟨strobe, hstrobe, h⟩ := Option.bind_eq_some_iff.mp h
  obtain ⟨hold, hhold, h⟩ := Option.bind_eq_some_iff.mp h
  obtain ⟨recovery, hrecovery, h⟩ := Option.bind_eq_some_iff.mp h
  obtain ⟨readyMode, -, h⟩ := Option.bind_eq_some_iff.mp h
  obtain ⟨readyLimit, hready, h⟩ := Option.bind_eq_some_iff.mp h
  obtain ⟨queueLimit, hqueue, h⟩ := Option.bind_eq_some_iff.mp h
  obtain ⟨softStop, -, h⟩ := Option.bind_eq_some_iff.mp h
  cases h
  obtain ⟨hbits, hbits'⟩ := bounds_of_within hbits
  obtain ⟨hphase, hphase'⟩ := bounds_of_within hphase
  obtain ⟨-, hsetup⟩ := bounds_of_within hsetup
  obtain ⟨hstrobe, hstrobe'⟩ := bounds_of_within hstrobe
  obtain ⟨-, hhold⟩ := bounds_of_within hhold
  obtain ⟨-, hrecovery⟩ := bounds_of_within hrecovery
  obtain ⟨hready, hready'⟩ := bounds_of_within hready
  exact decide_eq_true ⟨hbits, hbits', hphase, hphase', hsetup, hstrobe, hstrobe', hhold, hrecovery, hready, hready',
    bounds_of_within hqueue⟩

/-- Settles O17: the bytes field by field, and the two readers with what they have checked. -/
theorem formatsReadBack : Obligations.FormatsReadBack := by
  refine ⟨⟨fun _ _ => rfl, fun _ _ _ => rfl, fun _ _ _ => rfl, fun _ _ _ _ => rfl, poll_bytes, fun _ _ _ _ _ _ _ => rfl,
    waitAttention_bytes, delay_bytes, profile_bytes, fun _ _ _ _ _ _ _ _ => ⟨rfl, rfl, rfl, rfl⟩⟩,
    fun _ => Requests.parseOps_bytes, fun _ _ _ => length_and_inRange_of_parseOps, fun _ pre post h => Windows.profileAt_bytes h pre post,
    fun _ _ _ => inRange_of_profileAt⟩

end Sys2Proof.Formats
end

section
namespace Sys2Proof.Formats

open Sys2Proof Sys2Proof.Machine

/-! ## The bytes of a report and their number (Table 11–6, R160, R161) -/

theorem length_outcomeBytes (o : Option TxOutcome) : (outcomeBytes o).length = 2 := by
  unfold outcomeBytes
  split <;> rfl

/-- The largest report is a COMPLETION with all of its 192 data bytes. -/
theorem length_report_le (r : Report) (h : match r.content with
    | .reply x => x.body.length ≤ 88
    | .completion _ _ _ _ _ _ _ data => data.length ≤ 192
    | .attention _ _ _ _ _ | .shareOverrun _ _ _ => True) : r.bytes.length ≤ 207 := by
  obtain ⟨serial, content⟩ := r
  cases content with
  | reply x => exact Records.length_replyReport serial h
  | completion tag w count o ops fail detail data =>
    have hdata : data.length ≤ 192 := h
    have hbytes : (Report.bytes ⟨serial, .completion tag w count o ops fail detail data⟩).length = 15 + data.length := by
      simp +arith [Report.bytes, ReportContent.fields, length_outcomeBytes]
    omega
  | attention => simp [Report.bytes, ReportContent.fields]
  | shareOverrun => simp [Report.bytes, ReportContent.fields]

/-! ## The body of a reply (R148, Table 11–7) -/

/-- The reply in the slot, where one is formed, has a body of at most 88 bytes: the part of `Records.MessagesFit` that a request decides. -/
def ReplyFits (s : State) : Prop := ∀ r, s.dsp.slot = some r → r.body.length ≤ 88

section
variable (s : State) (m : Message)

theorem replyFits_of_empty {s : State} (h : s.dsp.slot = none) : ReplyFits s := by simp [ReplyFits, h]

@[simp] theorem replyFits_reply (kind : Byte) (c : ResultCode) (body : List Byte) :
    ReplyFits (s.reply kind c body) ↔ body.length ≤ 88 := by
  simp [ReplyFits, State.reply]

@[simp] theorem replyFits_accept (k : RequestKind) (body : List Byte) : ReplyFits (s.accept k body) ↔ body.length ≤ 88 :=
  replyFits_reply ..

@[simp] theorem replyFits_refuse (k : RequestKind) (code : ResultCode) : ReplyFits (s.refuse k m code) :=
  (replyFits_reply ..).mpr ((Records.length_object_le k m).trans (by decide))

@[simp] theorem replyFits_refuseFormat : ReplyFits (s.refuseFormat m) := (replyFits_reply ..).mpr (Nat.zero_le _)

/-! ### What a request answers -/

/-- A HOLD that finds the flag clear answers at once, or leaves the slot as it was until the access is over (R81). -/
theorem holdClear_replyFits (h : ReplyFits s) : ReplyFits s.holdClear := by
  unfold State.holdClear
  dsimp only
  split
  · simp
  · exact h

/-- A reset empties the slot (R121). -/
theorem softReset_slot : s.softReset.dsp.slot = none := by
  unfold State.softReset
  split
  · rfl
  · simp [State.resetBlocks, Dispatcher.reset]

/-- Each request is refused or answered with its body of Table 11–7; the longest is that of QUERY ATTENTION, eight entries of 11 bytes. -/
theorem request_replyFits {s : State} (h : ReplyFits s) (k : RequestKind) : ReplyFits (Requests.request k s m) := by
  cases k with
  | hold =>
    unfold Requests.request State.holdRequest
    dsimp only
    split
    · split
      · simp
      · exact holdClear_replyFits s h
    · simp
  | resetDevice =>
    unfold Requests.request State.resetDevice
    dsimp only
    split
    · exact replyFits_of_empty (softReset_slot s)
    · simp
  | queryAttention =>
    unfold Requests.request State.queryAttention
    dsimp only
    split
    · exact (replyFits_accept ..).mpr (Records.length_attentionBody s).le
    · simp
  | submit | cancel | flush | configureWindow | clearFault | setupAttention | acknowledgeAttention | resume | setSharing | setLink
  | queryDevice | queryWindow | queryTransaction | queryLink =>
    simp only [Requests.request, State.submit, State.cancel, State.flush, State.configureWindow, State.clearFault, State.setupAttention,
      State.acknowledgeAttention, State.resumeRequest, State.setSharing, State.setLink, State.queryDevice, State.queryWindow,
      State.queryTransaction, State.queryLink]
    repeat' split
    all_goals simp [State.acceptSubmit, State.deviceBody, Records.length_windowBody, Record.queryBody, Link.queryBody]

theorem carryOut_of_kind {m : Message} {k : RequestKind} (h : kindNamed (kindOf m) = some k) : s.carryOut m = Requests.request k s m := by
  unfold State.carryOut
  rw [h]
  cases k <;> rfl

theorem carryOut_of_no_kind {m : Message} (h : kindNamed (kindOf m) = none) : s.carryOut m = s.refuseFormat m := by
  unfold State.carryOut
  rw [h]

/-- Taking a request leaves a reply that fits where one that fits, or none, stood before. -/
theorem takeRequest_replyFits (h : ReplyFits s) : ReplyFits s.takeRequest := by
  unfold State.takeRequest
  split
  · exact h
  · rename_i m rest _
    split
    · cases hk : kindNamed (kindOf m) with
      | none =>
        rw [carryOut_of_no_kind _ hk]
        exact replyFits_refuseFormat _ m
      | some k =>
        have hpop : ReplyFits (s.pop rest) := h
        rw [carryOut_of_kind _ hk]
        exact request_replyFits m hpop k
    · exact h

end

/-- Settles O20: the bytes field by field, the sum of their number, and the reply of each request. -/
theorem reportBytes : Obligations.ReportBytes := by
  refine ⟨fun _ _ => rfl, fun serial tag count w o ops detail fail data => ?_, fun _ _ _ _ _ _ => rfl, fun serial limit count w => ?_,
    length_report_le, fun s _ h => takeRequest_replyFits s (replyFits_of_empty h) _⟩
  · simp only [Report.bytes, ReportContent.fields, natBytes_eq]
    cases fail <;> rcases o with _ | (_ | _ | _ | _ | _) | (_ | _ | _) <;> rfl
  · simp only [Report.bytes, ReportContent.fields, natBytes_eq]
    cases w <;> rfl

end Sys2Proof.Formats
end

section
namespace Sys2Proof.Steps

open Sys2Proof Sys2Proof.Machine

/-! PROOF. What one step does (O1): the front of the queue of commands decides it. -/

variable {s : State}

theorem step_of_pending_cons {c : Instr} {rest : List Instr} (h : s.pending = c :: rest) : step s = exec c { s with pending := rest } := by
  unfold step
  rw [h]

theorem step_of_pending_nil (h : s.pending = []) : step s = .next s.tick := by
  unfold step
  rw [h]

theorem nextTick_eq (s : State) : s.nextTick = { s with now := s.now + 1 } := by
  have hmax : max s.now (s.now + 1) = s.now + 1 := max_eq_right (Nat.le_succ s.now)
  rw [State.nextTick, State.reach, hmax]

/-- With nothing due before the next tick, a tick moves nothing but the clock. -/
theorem tick_of_dueBy_none (h : s.dueBy (s.now + 1) = none) : s.tick = { s with now := s.now + 1 } := by
  have hrest : s.before State.nextTick = s := before_of_dueBy_none (by rw [nextTick_eq]; exact h)
  rw [State.tick, hrest, nextTick_eq]

/-- Settles O1: a case of the step for each shape of the queue. -/
theorem stepRunsCommand : Obligations.StepRunsCommand :=
  ⟨fun _ _ _ hcons => step_of_pending_cons hcons, fun _ hnil hdue => by rw [step_of_pending_nil hnil, tick_of_dueBy_none hdue]⟩

end Sys2Proof.Steps
end
